-- ==== Sys2Proof/Word.lean ====
section
/-! DEFINITION. The data widths of the CORE (R8, file 00): bytes and 16-bit addresses. -/

namespace Sys2Proof

/-- A CPU register other than PC, a memory cell, the data bus (R8). -/
abbrev Byte := BitVec 8

/-- PC and the CPU address bus (R8). -/
abbrev Word := BitVec 16

end Sys2Proof
end

