-- ==== Sys2Proof/Syntax.lean ====
section
/-! DEFINITION. The instruction set as syntax: one constructor per opcode byte of the listing of R321 (file 30), with
the operand its bytes carry (R303): first those of the two longer formats, then those of one byte, each in the order
of their opcode bytes. Every value of an operand's type is an operand the encoding
admits, so a term needs no further check (see WellFormed.lean). -/

namespace Sys2Proof

/-- The addressing modes (R303). -/
inductive Mode
  | imp | acc | imm | zp | zpx | zpy | abs | absx | absy | izx | izy | rel | ind
  deriving DecidableEq, Repr

/-- The three instruction formats (R300). -/
inductive Format
  | f1 | f2 | f3
  deriving DecidableEq, Repr

/-- Length in bytes (R300). -/
def Format.length : Format → Nat
  | .f1 => 1
  | .f2 => 2
  | .f3 => 3

/-- How an opcode accesses its operand (R321, R405). -/
inductive AccessClass
  | read | write | rmw | stack | control | implied
  deriving DecidableEq, Repr

/-- The three classes of opcode bytes (R330). -/
inductive Status
  | documented | combined | fallback
  deriving DecidableEq, Repr

/-- One instruction. A constructor's name is its mnemonic and mode, with the opcode byte where several bytes share
both; the comment gives the opcode byte and its row of R321. A `Byte` is the operand byte `bits[15:8]`, a `Word` the
16-bit operand `{bits[23:16], bits[15:8]}` (R300, R303). -/
inductive Instr
  | brk (b : Byte)  -- 00 BRK imp
  | oraIzx (b : Byte)  -- 01 ORA izx
  | sloIzx (b : Byte)  -- 03 SLO izx
  | nopZp04 (b : Byte)  -- 04 NOP zp
  | oraZp (b : Byte)  -- 05 ORA zp
  | aslZp (b : Byte)  -- 06 ASL zp
  | sloZp (b : Byte)  -- 07 SLO zp
  | oraImm (b : Byte)  -- 09 ORA imm
  | anc0B (b : Byte)  -- 0B ANC imm
  | nopAbs (w : Word)  -- 0C NOP abs
  | oraAbs (w : Word)  -- 0D ORA abs
  | aslAbs (w : Word)  -- 0E ASL abs
  | sloAbs (w : Word)  -- 0F SLO abs
  | bpl (b : Byte)  -- 10 BPL rel
  | oraIzy (b : Byte)  -- 11 ORA izy
  | sloIzy (b : Byte)  -- 13 SLO izy
  | nopZpx14 (b : Byte)  -- 14 NOP zpx
  | oraZpx (b : Byte)  -- 15 ORA zpx
  | aslZpx (b : Byte)  -- 16 ASL zpx
  | sloZpx (b : Byte)  -- 17 SLO zpx
  | oraAbsy (w : Word)  -- 19 ORA absy
  | sloAbsy (w : Word)  -- 1B SLO absy
  | nopAbsx1C (w : Word)  -- 1C NOP absx
  | oraAbsx (w : Word)  -- 1D ORA absx
  | aslAbsx (w : Word)  -- 1E ASL absx
  | sloAbsx (w : Word)  -- 1F SLO absx
  | jsrAbs (w : Word)  -- 20 JSR abs
  | andIzx (b : Byte)  -- 21 AND izx
  | rlaIzx (b : Byte)  -- 23 RLA izx
  | bitZp (b : Byte)  -- 24 BIT zp
  | andZp (b : Byte)  -- 25 AND zp
  | rolZp (b : Byte)  -- 26 ROL zp
  | rlaZp (b : Byte)  -- 27 RLA zp
  | andImm (b : Byte)  -- 29 AND imm
  | anc2B (b : Byte)  -- 2B ANC imm
  | bitAbs (w : Word)  -- 2C BIT abs
  | andAbs (w : Word)  -- 2D AND abs
  | rolAbs (w : Word)  -- 2E ROL abs
  | rlaAbs (w : Word)  -- 2F RLA abs
  | bmi (b : Byte)  -- 30 BMI rel
  | andIzy (b : Byte)  -- 31 AND izy
  | rlaIzy (b : Byte)  -- 33 RLA izy
  | nopZpx34 (b : Byte)  -- 34 NOP zpx
  | andZpx (b : Byte)  -- 35 AND zpx
  | rolZpx (b : Byte)  -- 36 ROL zpx
  | rlaZpx (b : Byte)  -- 37 RLA zpx
  | andAbsy (w : Word)  -- 39 AND absy
  | rlaAbsy (w : Word)  -- 3B RLA absy
  | nopAbsx3C (w : Word)  -- 3C NOP absx
  | andAbsx (w : Word)  -- 3D AND absx
  | rolAbsx (w : Word)  -- 3E ROL absx
  | rlaAbsx (w : Word)  -- 3F RLA absx
  | eorIzx (b : Byte)  -- 41 EOR izx
  | sreIzx (b : Byte)  -- 43 SRE izx
  | nopZp44 (b : Byte)  -- 44 NOP zp
  | eorZp (b : Byte)  -- 45 EOR zp
  | lsrZp (b : Byte)  -- 46 LSR zp
  | sreZp (b : Byte)  -- 47 SRE zp
  | eorImm (b : Byte)  -- 49 EOR imm
  | alrImm (b : Byte)  -- 4B ALR imm
  | jmpAbs (w : Word)  -- 4C JMP abs
  | eorAbs (w : Word)  -- 4D EOR abs
  | lsrAbs (w : Word)  -- 4E LSR abs
  | sreAbs (w : Word)  -- 4F SRE abs
  | bvc (b : Byte)  -- 50 BVC rel
  | eorIzy (b : Byte)  -- 51 EOR izy
  | sreIzy (b : Byte)  -- 53 SRE izy
  | nopZpx54 (b : Byte)  -- 54 NOP zpx
  | eorZpx (b : Byte)  -- 55 EOR zpx
  | lsrZpx (b : Byte)  -- 56 LSR zpx
  | sreZpx (b : Byte)  -- 57 SRE zpx
  | eorAbsy (w : Word)  -- 59 EOR absy
  | sreAbsy (w : Word)  -- 5B SRE absy
  | nopAbsx5C (w : Word)  -- 5C NOP absx
  | eorAbsx (w : Word)  -- 5D EOR absx
  | lsrAbsx (w : Word)  -- 5E LSR absx
  | sreAbsx (w : Word)  -- 5F SRE absx
  | adcIzx (b : Byte)  -- 61 ADC izx
  | rraIzx (b : Byte)  -- 63 RRA izx
  | nopZp64 (b : Byte)  -- 64 NOP zp
  | adcZp (b : Byte)  -- 65 ADC zp
  | rorZp (b : Byte)  -- 66 ROR zp
  | rraZp (b : Byte)  -- 67 RRA zp
  | adcImm (b : Byte)  -- 69 ADC imm
  | arrImm (b : Byte)  -- 6B ARR imm
  | jmpInd (w : Word)  -- 6C JMP ind
  | adcAbs (w : Word)  -- 6D ADC abs
  | rorAbs (w : Word)  -- 6E ROR abs
  | rraAbs (w : Word)  -- 6F RRA abs
  | bvs (b : Byte)  -- 70 BVS rel
  | adcIzy (b : Byte)  -- 71 ADC izy
  | rraIzy (b : Byte)  -- 73 RRA izy
  | nopZpx74 (b : Byte)  -- 74 NOP zpx
  | adcZpx (b : Byte)  -- 75 ADC zpx
  | rorZpx (b : Byte)  -- 76 ROR zpx
  | rraZpx (b : Byte)  -- 77 RRA zpx
  | adcAbsy (w : Word)  -- 79 ADC absy
  | rraAbsy (w : Word)  -- 7B RRA absy
  | nopAbsx7C (w : Word)  -- 7C NOP absx
  | adcAbsx (w : Word)  -- 7D ADC absx
  | rorAbsx (w : Word)  -- 7E ROR absx
  | rraAbsx (w : Word)  -- 7F RRA absx
  | nopImm80 (b : Byte)  -- 80 NOP imm
  | staIzx (b : Byte)  -- 81 STA izx
  | nopImm82 (b : Byte)  -- 82 NOP imm
  | saxIzx (b : Byte)  -- 83 SAX izx
  | styZp (b : Byte)  -- 84 STY zp
  | staZp (b : Byte)  -- 85 STA zp
  | stxZp (b : Byte)  -- 86 STX zp
  | saxZp (b : Byte)  -- 87 SAX zp
  | nopImm89 (b : Byte)  -- 89 NOP imm
  | aneImm (b : Byte)  -- 8B ANE imm
  | styAbs (w : Word)  -- 8C STY abs
  | staAbs (w : Word)  -- 8D STA abs
  | stxAbs (w : Word)  -- 8E STX abs
  | saxAbs (w : Word)  -- 8F SAX abs
  | bcc (b : Byte)  -- 90 BCC rel
  | staIzy (b : Byte)  -- 91 STA izy
  | shaIzy (b : Byte)  -- 93 SHA izy
  | styZpx (b : Byte)  -- 94 STY zpx
  | staZpx (b : Byte)  -- 95 STA zpx
  | stxZpy (b : Byte)  -- 96 STX zpy
  | saxZpy (b : Byte)  -- 97 SAX zpy
  | staAbsy (w : Word)  -- 99 STA absy
  | tasAbsy (w : Word)  -- 9B TAS absy
  | shyAbsx (w : Word)  -- 9C SHY absx
  | staAbsx (w : Word)  -- 9D STA absx
  | shxAbsy (w : Word)  -- 9E SHX absy
  | shaAbsy (w : Word)  -- 9F SHA absy
  | ldyImm (b : Byte)  -- A0 LDY imm
  | ldaIzx (b : Byte)  -- A1 LDA izx
  | ldxImm (b : Byte)  -- A2 LDX imm
  | laxIzx (b : Byte)  -- A3 LAX izx
  | ldyZp (b : Byte)  -- A4 LDY zp
  | ldaZp (b : Byte)  -- A5 LDA zp
  | ldxZp (b : Byte)  -- A6 LDX zp
  | laxZp (b : Byte)  -- A7 LAX zp
  | ldaImm (b : Byte)  -- A9 LDA imm
  | lxaImm (b : Byte)  -- AB LXA imm
  | ldyAbs (w : Word)  -- AC LDY abs
  | ldaAbs (w : Word)  -- AD LDA abs
  | ldxAbs (w : Word)  -- AE LDX abs
  | laxAbs (w : Word)  -- AF LAX abs
  | bcs (b : Byte)  -- B0 BCS rel
  | ldaIzy (b : Byte)  -- B1 LDA izy
  | laxIzy (b : Byte)  -- B3 LAX izy
  | ldyZpx (b : Byte)  -- B4 LDY zpx
  | ldaZpx (b : Byte)  -- B5 LDA zpx
  | ldxZpy (b : Byte)  -- B6 LDX zpy
  | laxZpy (b : Byte)  -- B7 LAX zpy
  | ldaAbsy (w : Word)  -- B9 LDA absy
  | lasAbsy (w : Word)  -- BB LAS absy
  | ldyAbsx (w : Word)  -- BC LDY absx
  | ldaAbsx (w : Word)  -- BD LDA absx
  | ldxAbsy (w : Word)  -- BE LDX absy
  | laxAbsy (w : Word)  -- BF LAX absy
  | cpyImm (b : Byte)  -- C0 CPY imm
  | cmpIzx (b : Byte)  -- C1 CMP izx
  | nopImmC2 (b : Byte)  -- C2 NOP imm
  | dcpIzx (b : Byte)  -- C3 DCP izx
  | cpyZp (b : Byte)  -- C4 CPY zp
  | cmpZp (b : Byte)  -- C5 CMP zp
  | decZp (b : Byte)  -- C6 DEC zp
  | dcpZp (b : Byte)  -- C7 DCP zp
  | cmpImm (b : Byte)  -- C9 CMP imm
  | sbxImm (b : Byte)  -- CB SBX imm
  | cpyAbs (w : Word)  -- CC CPY abs
  | cmpAbs (w : Word)  -- CD CMP abs
  | decAbs (w : Word)  -- CE DEC abs
  | dcpAbs (w : Word)  -- CF DCP abs
  | bne (b : Byte)  -- D0 BNE rel
  | cmpIzy (b : Byte)  -- D1 CMP izy
  | dcpIzy (b : Byte)  -- D3 DCP izy
  | nopZpxD4 (b : Byte)  -- D4 NOP zpx
  | cmpZpx (b : Byte)  -- D5 CMP zpx
  | decZpx (b : Byte)  -- D6 DEC zpx
  | dcpZpx (b : Byte)  -- D7 DCP zpx
  | cmpAbsy (w : Word)  -- D9 CMP absy
  | dcpAbsy (w : Word)  -- DB DCP absy
  | nopAbsxDC (w : Word)  -- DC NOP absx
  | cmpAbsx (w : Word)  -- DD CMP absx
  | decAbsx (w : Word)  -- DE DEC absx
  | dcpAbsx (w : Word)  -- DF DCP absx
  | cpxImm (b : Byte)  -- E0 CPX imm
  | sbcIzx (b : Byte)  -- E1 SBC izx
  | nopImmE2 (b : Byte)  -- E2 NOP imm
  | iscIzx (b : Byte)  -- E3 ISC izx
  | cpxZp (b : Byte)  -- E4 CPX zp
  | sbcZp (b : Byte)  -- E5 SBC zp
  | incZp (b : Byte)  -- E6 INC zp
  | iscZp (b : Byte)  -- E7 ISC zp
  | sbcImm (b : Byte)  -- E9 SBC imm
  | usbcImm (b : Byte)  -- EB USBC imm
  | cpxAbs (w : Word)  -- EC CPX abs
  | sbcAbs (w : Word)  -- ED SBC abs
  | incAbs (w : Word)  -- EE INC abs
  | iscAbs (w : Word)  -- EF ISC abs
  | beq (b : Byte)  -- F0 BEQ rel
  | sbcIzy (b : Byte)  -- F1 SBC izy
  | iscIzy (b : Byte)  -- F3 ISC izy
  | nopZpxF4 (b : Byte)  -- F4 NOP zpx
  | sbcZpx (b : Byte)  -- F5 SBC zpx
  | incZpx (b : Byte)  -- F6 INC zpx
  | iscZpx (b : Byte)  -- F7 ISC zpx
  | sbcAbsy (w : Word)  -- F9 SBC absy
  | iscAbsy (w : Word)  -- FB ISC absy
  | nopAbsxFC (w : Word)  -- FC NOP absx
  | sbcAbsx (w : Word)  -- FD SBC absx
  | incAbsx (w : Word)  -- FE INC absx
  | iscAbsx (w : Word)  -- FF ISC absx
  | jam02  -- 02 JAM imp
  | php  -- 08 PHP imp
  | aslAcc  -- 0A ASL acc
  | jam12  -- 12 JAM imp
  | clc  -- 18 CLC imp
  | nopImp1A  -- 1A NOP imp
  | jam22  -- 22 JAM imp
  | plp  -- 28 PLP imp
  | rolAcc  -- 2A ROL acc
  | jam32  -- 32 JAM imp
  | sec  -- 38 SEC imp
  | nopImp3A  -- 3A NOP imp
  | rti  -- 40 RTI imp
  | jam42  -- 42 JAM imp
  | pha  -- 48 PHA imp
  | lsrAcc  -- 4A LSR acc
  | jam52  -- 52 JAM imp
  | cli  -- 58 CLI imp
  | nopImp5A  -- 5A NOP imp
  | rts  -- 60 RTS imp
  | jam62  -- 62 JAM imp
  | pla  -- 68 PLA imp
  | rorAcc  -- 6A ROR acc
  | jam72  -- 72 JAM imp
  | sei  -- 78 SEI imp
  | nopImp7A  -- 7A NOP imp
  | dey  -- 88 DEY imp
  | txa  -- 8A TXA imp
  | jam92  -- 92 JAM imp
  | tya  -- 98 TYA imp
  | txs  -- 9A TXS imp
  | tay  -- A8 TAY imp
  | tax  -- AA TAX imp
  | jamB2  -- B2 JAM imp
  | clv  -- B8 CLV imp
  | tsx  -- BA TSX imp
  | iny  -- C8 INY imp
  | dex  -- CA DEX imp
  | jamD2  -- D2 JAM imp
  | cld  -- D8 CLD imp
  | nopImpDA  -- DA NOP imp
  | inx  -- E8 INX imp
  | nop  -- EA NOP imp
  | jamF2  -- F2 JAM imp
  | sed  -- F8 SED imp
  | nopImpFA  -- FA NOP imp
  deriving DecidableEq, Repr

end Sys2Proof
end

