-- ==== Sys2Proof/WellFormed.lean ====
section
/-! DEFINITION. What is checked of instruction bytes (R300, R301): an opcode byte followed by exactly the operand
bytes its row gives. A term of `Instr` needs no check: an operand is a whole byte or a whole 16-bit value, and every
value is legal (R303: "No immediate is sign-extended except the branch offset; no operand is scaled or shifted").
Registrations of ports are checked in Machine/HostApi.lean (R203). -/

namespace Sys2Proof

/-- The length column of R321, one list per high nibble of the opcode byte. -/
def lengthRows : List (List Nat) :=
  [
   [2, 2, 1, 2, 2, 2, 2, 2, 1, 2, 1, 2, 3, 3, 3, 3],
   [2, 2, 1, 2, 2, 2, 2, 2, 1, 3, 1, 3, 3, 3, 3, 3],
   [3, 2, 1, 2, 2, 2, 2, 2, 1, 2, 1, 2, 3, 3, 3, 3],
   [2, 2, 1, 2, 2, 2, 2, 2, 1, 3, 1, 3, 3, 3, 3, 3],
   [1, 2, 1, 2, 2, 2, 2, 2, 1, 2, 1, 2, 3, 3, 3, 3],
   [2, 2, 1, 2, 2, 2, 2, 2, 1, 3, 1, 3, 3, 3, 3, 3],
   [1, 2, 1, 2, 2, 2, 2, 2, 1, 2, 1, 2, 3, 3, 3, 3],
   [2, 2, 1, 2, 2, 2, 2, 2, 1, 3, 1, 3, 3, 3, 3, 3],
   [2, 2, 2, 2, 2, 2, 2, 2, 1, 2, 1, 2, 3, 3, 3, 3],
   [2, 2, 1, 2, 2, 2, 2, 2, 1, 3, 1, 3, 3, 3, 3, 3],
   [2, 2, 2, 2, 2, 2, 2, 2, 1, 2, 1, 2, 3, 3, 3, 3],
   [2, 2, 1, 2, 2, 2, 2, 2, 1, 3, 1, 3, 3, 3, 3, 3],
   [2, 2, 2, 2, 2, 2, 2, 2, 1, 2, 1, 2, 3, 3, 3, 3],
   [2, 2, 1, 2, 2, 2, 2, 2, 1, 3, 1, 3, 3, 3, 3, 3],
   [2, 2, 2, 2, 2, 2, 2, 2, 1, 2, 1, 2, 3, 3, 3, 3],
   [2, 2, 1, 2, 2, 2, 2, 2, 1, 3, 1, 3, 3, 3, 3, 3]]

/-- The length of an instruction, "a function of its opcode byte alone" (R301). -/
def lengthOf (op : Byte) : Nat := ((lengthRows[op.toNat / 16]?.getD [])[op.toNat % 16]?).getD 1

/-- Whether a list of bytes is one whole instruction (R300, R301). -/
def bytesWellFormed : List Byte → Bool
  | [] => false
  | op :: operands => operands.length + 1 == lengthOf op

end Sys2Proof
end

