-- ==== Sys2Proof/Decode.lean ====
section
/-! DEFINITION. Decoding by the whole opcode byte (R302, R320, R321, R402), and the encoder, both written from the
listing of R321 and the formats of R300. -/

namespace Sys2Proof

/-! ## Bytes and 16-bit values -/

/-- The low byte of a 16-bit value (R11). -/
def loByte (a : Word) : Byte := a.setWidth 8

/-- The high byte of a 16-bit value (R11). -/
def hiByte (a : Word) : Byte := (a >>> 8).setWidth 8

/-- `{hi, lo}`: a 16-bit value from its two bytes (R11, R220). -/
def joinBytes (hi lo : Byte) : Word := hi ++ lo

/-! ## The opcode map -/

/-- What an opcode byte selects: an instruction of its format, still without its operand bytes (R300, R401). -/
inductive Row
  | f1 (i : Instr)
  | f2 (mk : Byte → Instr)
  | f3 (mk : Word → Instr)

/-- Row 0x of the opcode map (R320). -/
def opcodeRow0 : List Row :=
  [.f2 Instr.brk, .f2 Instr.oraIzx, .f1 Instr.jam02, .f2 Instr.sloIzx,
   .f2 Instr.nopZp04, .f2 Instr.oraZp, .f2 Instr.aslZp, .f2 Instr.sloZp,
   .f1 Instr.php, .f2 Instr.oraImm, .f1 Instr.aslAcc, .f2 Instr.anc0B,
   .f3 Instr.nopAbs, .f3 Instr.oraAbs, .f3 Instr.aslAbs, .f3 Instr.sloAbs]

/-- Row 1x of the opcode map (R320). -/
def opcodeRow1 : List Row :=
  [.f2 Instr.bpl, .f2 Instr.oraIzy, .f1 Instr.jam12, .f2 Instr.sloIzy,
   .f2 Instr.nopZpx14, .f2 Instr.oraZpx, .f2 Instr.aslZpx, .f2 Instr.sloZpx,
   .f1 Instr.clc, .f3 Instr.oraAbsy, .f1 Instr.nopImp1A, .f3 Instr.sloAbsy,
   .f3 Instr.nopAbsx1C, .f3 Instr.oraAbsx, .f3 Instr.aslAbsx, .f3 Instr.sloAbsx]

/-- Row 2x of the opcode map (R320). -/
def opcodeRow2 : List Row :=
  [.f3 Instr.jsrAbs, .f2 Instr.andIzx, .f1 Instr.jam22, .f2 Instr.rlaIzx,
   .f2 Instr.bitZp, .f2 Instr.andZp, .f2 Instr.rolZp, .f2 Instr.rlaZp,
   .f1 Instr.plp, .f2 Instr.andImm, .f1 Instr.rolAcc, .f2 Instr.anc2B,
   .f3 Instr.bitAbs, .f3 Instr.andAbs, .f3 Instr.rolAbs, .f3 Instr.rlaAbs]

/-- Row 3x of the opcode map (R320). -/
def opcodeRow3 : List Row :=
  [.f2 Instr.bmi, .f2 Instr.andIzy, .f1 Instr.jam32, .f2 Instr.rlaIzy,
   .f2 Instr.nopZpx34, .f2 Instr.andZpx, .f2 Instr.rolZpx, .f2 Instr.rlaZpx,
   .f1 Instr.sec, .f3 Instr.andAbsy, .f1 Instr.nopImp3A, .f3 Instr.rlaAbsy,
   .f3 Instr.nopAbsx3C, .f3 Instr.andAbsx, .f3 Instr.rolAbsx, .f3 Instr.rlaAbsx]

/-- Row 4x of the opcode map (R320). -/
def opcodeRow4 : List Row :=
  [.f1 Instr.rti, .f2 Instr.eorIzx, .f1 Instr.jam42, .f2 Instr.sreIzx,
   .f2 Instr.nopZp44, .f2 Instr.eorZp, .f2 Instr.lsrZp, .f2 Instr.sreZp,
   .f1 Instr.pha, .f2 Instr.eorImm, .f1 Instr.lsrAcc, .f2 Instr.alrImm,
   .f3 Instr.jmpAbs, .f3 Instr.eorAbs, .f3 Instr.lsrAbs, .f3 Instr.sreAbs]

/-- Row 5x of the opcode map (R320). -/
def opcodeRow5 : List Row :=
  [.f2 Instr.bvc, .f2 Instr.eorIzy, .f1 Instr.jam52, .f2 Instr.sreIzy,
   .f2 Instr.nopZpx54, .f2 Instr.eorZpx, .f2 Instr.lsrZpx, .f2 Instr.sreZpx,
   .f1 Instr.cli, .f3 Instr.eorAbsy, .f1 Instr.nopImp5A, .f3 Instr.sreAbsy,
   .f3 Instr.nopAbsx5C, .f3 Instr.eorAbsx, .f3 Instr.lsrAbsx, .f3 Instr.sreAbsx]

/-- Row 6x of the opcode map (R320). -/
def opcodeRow6 : List Row :=
  [.f1 Instr.rts, .f2 Instr.adcIzx, .f1 Instr.jam62, .f2 Instr.rraIzx,
   .f2 Instr.nopZp64, .f2 Instr.adcZp, .f2 Instr.rorZp, .f2 Instr.rraZp,
   .f1 Instr.pla, .f2 Instr.adcImm, .f1 Instr.rorAcc, .f2 Instr.arrImm,
   .f3 Instr.jmpInd, .f3 Instr.adcAbs, .f3 Instr.rorAbs, .f3 Instr.rraAbs]

/-- Row 7x of the opcode map (R320). -/
def opcodeRow7 : List Row :=
  [.f2 Instr.bvs, .f2 Instr.adcIzy, .f1 Instr.jam72, .f2 Instr.rraIzy,
   .f2 Instr.nopZpx74, .f2 Instr.adcZpx, .f2 Instr.rorZpx, .f2 Instr.rraZpx,
   .f1 Instr.sei, .f3 Instr.adcAbsy, .f1 Instr.nopImp7A, .f3 Instr.rraAbsy,
   .f3 Instr.nopAbsx7C, .f3 Instr.adcAbsx, .f3 Instr.rorAbsx, .f3 Instr.rraAbsx]

/-- Row 8x of the opcode map (R320). -/
def opcodeRow8 : List Row :=
  [.f2 Instr.nopImm80, .f2 Instr.staIzx, .f2 Instr.nopImm82, .f2 Instr.saxIzx,
   .f2 Instr.styZp, .f2 Instr.staZp, .f2 Instr.stxZp, .f2 Instr.saxZp,
   .f1 Instr.dey, .f2 Instr.nopImm89, .f1 Instr.txa, .f2 Instr.aneImm,
   .f3 Instr.styAbs, .f3 Instr.staAbs, .f3 Instr.stxAbs, .f3 Instr.saxAbs]

/-- Row 9x of the opcode map (R320). -/
def opcodeRow9 : List Row :=
  [.f2 Instr.bcc, .f2 Instr.staIzy, .f1 Instr.jam92, .f2 Instr.shaIzy,
   .f2 Instr.styZpx, .f2 Instr.staZpx, .f2 Instr.stxZpy, .f2 Instr.saxZpy,
   .f1 Instr.tya, .f3 Instr.staAbsy, .f1 Instr.txs, .f3 Instr.tasAbsy,
   .f3 Instr.shyAbsx, .f3 Instr.staAbsx, .f3 Instr.shxAbsy, .f3 Instr.shaAbsy]

/-- Row Ax of the opcode map (R320). -/
def opcodeRowA : List Row :=
  [.f2 Instr.ldyImm, .f2 Instr.ldaIzx, .f2 Instr.ldxImm, .f2 Instr.laxIzx,
   .f2 Instr.ldyZp, .f2 Instr.ldaZp, .f2 Instr.ldxZp, .f2 Instr.laxZp,
   .f1 Instr.tay, .f2 Instr.ldaImm, .f1 Instr.tax, .f2 Instr.lxaImm,
   .f3 Instr.ldyAbs, .f3 Instr.ldaAbs, .f3 Instr.ldxAbs, .f3 Instr.laxAbs]

/-- Row Bx of the opcode map (R320). -/
def opcodeRowB : List Row :=
  [.f2 Instr.bcs, .f2 Instr.ldaIzy, .f1 Instr.jamB2, .f2 Instr.laxIzy,
   .f2 Instr.ldyZpx, .f2 Instr.ldaZpx, .f2 Instr.ldxZpy, .f2 Instr.laxZpy,
   .f1 Instr.clv, .f3 Instr.ldaAbsy, .f1 Instr.tsx, .f3 Instr.lasAbsy,
   .f3 Instr.ldyAbsx, .f3 Instr.ldaAbsx, .f3 Instr.ldxAbsy, .f3 Instr.laxAbsy]

/-- Row Cx of the opcode map (R320). -/
def opcodeRowC : List Row :=
  [.f2 Instr.cpyImm, .f2 Instr.cmpIzx, .f2 Instr.nopImmC2, .f2 Instr.dcpIzx,
   .f2 Instr.cpyZp, .f2 Instr.cmpZp, .f2 Instr.decZp, .f2 Instr.dcpZp,
   .f1 Instr.iny, .f2 Instr.cmpImm, .f1 Instr.dex, .f2 Instr.sbxImm,
   .f3 Instr.cpyAbs, .f3 Instr.cmpAbs, .f3 Instr.decAbs, .f3 Instr.dcpAbs]

/-- Row Dx of the opcode map (R320). -/
def opcodeRowD : List Row :=
  [.f2 Instr.bne, .f2 Instr.cmpIzy, .f1 Instr.jamD2, .f2 Instr.dcpIzy,
   .f2 Instr.nopZpxD4, .f2 Instr.cmpZpx, .f2 Instr.decZpx, .f2 Instr.dcpZpx,
   .f1 Instr.cld, .f3 Instr.cmpAbsy, .f1 Instr.nopImpDA, .f3 Instr.dcpAbsy,
   .f3 Instr.nopAbsxDC, .f3 Instr.cmpAbsx, .f3 Instr.decAbsx, .f3 Instr.dcpAbsx]

/-- Row Ex of the opcode map (R320). -/
def opcodeRowE : List Row :=
  [.f2 Instr.cpxImm, .f2 Instr.sbcIzx, .f2 Instr.nopImmE2, .f2 Instr.iscIzx,
   .f2 Instr.cpxZp, .f2 Instr.sbcZp, .f2 Instr.incZp, .f2 Instr.iscZp,
   .f1 Instr.inx, .f2 Instr.sbcImm, .f1 Instr.nop, .f2 Instr.usbcImm,
   .f3 Instr.cpxAbs, .f3 Instr.sbcAbs, .f3 Instr.incAbs, .f3 Instr.iscAbs]

/-- Row Fx of the opcode map (R320). -/
def opcodeRowF : List Row :=
  [.f2 Instr.beq, .f2 Instr.sbcIzy, .f1 Instr.jamF2, .f2 Instr.iscIzy,
   .f2 Instr.nopZpxF4, .f2 Instr.sbcZpx, .f2 Instr.incZpx, .f2 Instr.iscZpx,
   .f1 Instr.sed, .f3 Instr.sbcAbsy, .f1 Instr.nopImpFA, .f3 Instr.iscAbsy,
   .f3 Instr.nopAbsxFC, .f3 Instr.sbcAbsx, .f3 Instr.incAbsx, .f3 Instr.iscAbsx]

/-- The 256-entry table (R320). -/
def opcodeRows : List (List Row) :=
  [opcodeRow0, opcodeRow1, opcodeRow2, opcodeRow3, opcodeRow4, opcodeRow5, opcodeRow6, opcodeRow7,
   opcodeRow8, opcodeRow9, opcodeRowA, opcodeRowB, opcodeRowC, opcodeRowD, opcodeRowE, opcodeRowF]

/-- The row an opcode byte selects: the whole byte is the index (R402). The table has an entry for each byte. -/
def rowAt (op : Byte) : Row := ((opcodeRows[op.toNat / 16]?.getD [])[op.toNat % 16]?).getD (.f1 .nop)

/-- The instruction a row gives with its operand bytes; a row ignores the bytes it has no place for (R300). -/
def Row.build (r : Row) (b1 b2 : Byte) : Instr :=
  match r with
  | .f1 i => i
  | .f2 mk => mk b1
  | .f3 mk => mk (joinBytes b2 b1)

/-- The instruction of an opcode byte and two operand bytes (R303). -/
def instrAt (op b1 b2 : Byte) : Instr := (rowAt op).build b1 b2

/-- Why bytes do not decode: every opcode byte selects a row (R320), so only missing bytes are rejected. -/
inductive DecodeError
  /-- No byte at all. -/
  | noOpcode
  /-- Fewer operand bytes than the opcode's format has (R301). -/
  | missingOperand (opcode : Byte)
  deriving DecidableEq, Repr

/-- Decodes the first instruction of a list of bytes: the instruction and the bytes after it (R300, R301, R402). -/
def decode : List Byte → Except DecodeError (Instr × List Byte)
  | [] => .error .noOpcode
  | op :: rest =>
    match rowAt op, rest with
    | .f1 i, rest => .ok (i, rest)
    | .f2 mk, b1 :: rest => .ok (mk b1, rest)
    | .f3 mk, b1 :: b2 :: rest => .ok (mk (joinBytes b2 b1), rest)
    | _, _ => .error (.missingOperand op)

/-- Bytes 0, 1 and 2 of an instruction word numbered as the opcode table numbers it: bit 0 is the least significant
bit of the first byte. -/
def tableBytes (nbits w : Nat) : List Byte :=
  let w := w % 2 ^ nbits
  [BitVec.ofNat 8 w, BitVec.ofNat 8 (w / 256), BitVec.ofNat 8 (w / 65536)]

/-- The instruction the decoder reads from a table word. -/
def decodeTableWord (nbits w : Nat) : Option Instr :=
  match decode (tableBytes nbits w) with
  | .ok (i, _) => some i
  | .error _ => none

/-! ## The encoder -/

/-- The opcode byte (R321). -/
def Instr.opcode : Instr → Byte
  | .brk _ => 0x00
  | .oraIzx _ => 0x01
  | .jam02 => 0x02
  | .sloIzx _ => 0x03
  | .nopZp04 _ => 0x04
  | .oraZp _ => 0x05
  | .aslZp _ => 0x06
  | .sloZp _ => 0x07
  | .php => 0x08
  | .oraImm _ => 0x09
  | .aslAcc => 0x0A
  | .anc0B _ => 0x0B
  | .nopAbs _ => 0x0C
  | .oraAbs _ => 0x0D
  | .aslAbs _ => 0x0E
  | .sloAbs _ => 0x0F
  | .bpl _ => 0x10
  | .oraIzy _ => 0x11
  | .jam12 => 0x12
  | .sloIzy _ => 0x13
  | .nopZpx14 _ => 0x14
  | .oraZpx _ => 0x15
  | .aslZpx _ => 0x16
  | .sloZpx _ => 0x17
  | .clc => 0x18
  | .oraAbsy _ => 0x19
  | .nopImp1A => 0x1A
  | .sloAbsy _ => 0x1B
  | .nopAbsx1C _ => 0x1C
  | .oraAbsx _ => 0x1D
  | .aslAbsx _ => 0x1E
  | .sloAbsx _ => 0x1F
  | .jsrAbs _ => 0x20
  | .andIzx _ => 0x21
  | .jam22 => 0x22
  | .rlaIzx _ => 0x23
  | .bitZp _ => 0x24
  | .andZp _ => 0x25
  | .rolZp _ => 0x26
  | .rlaZp _ => 0x27
  | .plp => 0x28
  | .andImm _ => 0x29
  | .rolAcc => 0x2A
  | .anc2B _ => 0x2B
  | .bitAbs _ => 0x2C
  | .andAbs _ => 0x2D
  | .rolAbs _ => 0x2E
  | .rlaAbs _ => 0x2F
  | .bmi _ => 0x30
  | .andIzy _ => 0x31
  | .jam32 => 0x32
  | .rlaIzy _ => 0x33
  | .nopZpx34 _ => 0x34
  | .andZpx _ => 0x35
  | .rolZpx _ => 0x36
  | .rlaZpx _ => 0x37
  | .sec => 0x38
  | .andAbsy _ => 0x39
  | .nopImp3A => 0x3A
  | .rlaAbsy _ => 0x3B
  | .nopAbsx3C _ => 0x3C
  | .andAbsx _ => 0x3D
  | .rolAbsx _ => 0x3E
  | .rlaAbsx _ => 0x3F
  | .rti => 0x40
  | .eorIzx _ => 0x41
  | .jam42 => 0x42
  | .sreIzx _ => 0x43
  | .nopZp44 _ => 0x44
  | .eorZp _ => 0x45
  | .lsrZp _ => 0x46
  | .sreZp _ => 0x47
  | .pha => 0x48
  | .eorImm _ => 0x49
  | .lsrAcc => 0x4A
  | .alrImm _ => 0x4B
  | .jmpAbs _ => 0x4C
  | .eorAbs _ => 0x4D
  | .lsrAbs _ => 0x4E
  | .sreAbs _ => 0x4F
  | .bvc _ => 0x50
  | .eorIzy _ => 0x51
  | .jam52 => 0x52
  | .sreIzy _ => 0x53
  | .nopZpx54 _ => 0x54
  | .eorZpx _ => 0x55
  | .lsrZpx _ => 0x56
  | .sreZpx _ => 0x57
  | .cli => 0x58
  | .eorAbsy _ => 0x59
  | .nopImp5A => 0x5A
  | .sreAbsy _ => 0x5B
  | .nopAbsx5C _ => 0x5C
  | .eorAbsx _ => 0x5D
  | .lsrAbsx _ => 0x5E
  | .sreAbsx _ => 0x5F
  | .rts => 0x60
  | .adcIzx _ => 0x61
  | .jam62 => 0x62
  | .rraIzx _ => 0x63
  | .nopZp64 _ => 0x64
  | .adcZp _ => 0x65
  | .rorZp _ => 0x66
  | .rraZp _ => 0x67
  | .pla => 0x68
  | .adcImm _ => 0x69
  | .rorAcc => 0x6A
  | .arrImm _ => 0x6B
  | .jmpInd _ => 0x6C
  | .adcAbs _ => 0x6D
  | .rorAbs _ => 0x6E
  | .rraAbs _ => 0x6F
  | .bvs _ => 0x70
  | .adcIzy _ => 0x71
  | .jam72 => 0x72
  | .rraIzy _ => 0x73
  | .nopZpx74 _ => 0x74
  | .adcZpx _ => 0x75
  | .rorZpx _ => 0x76
  | .rraZpx _ => 0x77
  | .sei => 0x78
  | .adcAbsy _ => 0x79
  | .nopImp7A => 0x7A
  | .rraAbsy _ => 0x7B
  | .nopAbsx7C _ => 0x7C
  | .adcAbsx _ => 0x7D
  | .rorAbsx _ => 0x7E
  | .rraAbsx _ => 0x7F
  | .nopImm80 _ => 0x80
  | .staIzx _ => 0x81
  | .nopImm82 _ => 0x82
  | .saxIzx _ => 0x83
  | .styZp _ => 0x84
  | .staZp _ => 0x85
  | .stxZp _ => 0x86
  | .saxZp _ => 0x87
  | .dey => 0x88
  | .nopImm89 _ => 0x89
  | .txa => 0x8A
  | .aneImm _ => 0x8B
  | .styAbs _ => 0x8C
  | .staAbs _ => 0x8D
  | .stxAbs _ => 0x8E
  | .saxAbs _ => 0x8F
  | .bcc _ => 0x90
  | .staIzy _ => 0x91
  | .jam92 => 0x92
  | .shaIzy _ => 0x93
  | .styZpx _ => 0x94
  | .staZpx _ => 0x95
  | .stxZpy _ => 0x96
  | .saxZpy _ => 0x97
  | .tya => 0x98
  | .staAbsy _ => 0x99
  | .txs => 0x9A
  | .tasAbsy _ => 0x9B
  | .shyAbsx _ => 0x9C
  | .staAbsx _ => 0x9D
  | .shxAbsy _ => 0x9E
  | .shaAbsy _ => 0x9F
  | .ldyImm _ => 0xA0
  | .ldaIzx _ => 0xA1
  | .ldxImm _ => 0xA2
  | .laxIzx _ => 0xA3
  | .ldyZp _ => 0xA4
  | .ldaZp _ => 0xA5
  | .ldxZp _ => 0xA6
  | .laxZp _ => 0xA7
  | .tay => 0xA8
  | .ldaImm _ => 0xA9
  | .tax => 0xAA
  | .lxaImm _ => 0xAB
  | .ldyAbs _ => 0xAC
  | .ldaAbs _ => 0xAD
  | .ldxAbs _ => 0xAE
  | .laxAbs _ => 0xAF
  | .bcs _ => 0xB0
  | .ldaIzy _ => 0xB1
  | .jamB2 => 0xB2
  | .laxIzy _ => 0xB3
  | .ldyZpx _ => 0xB4
  | .ldaZpx _ => 0xB5
  | .ldxZpy _ => 0xB6
  | .laxZpy _ => 0xB7
  | .clv => 0xB8
  | .ldaAbsy _ => 0xB9
  | .tsx => 0xBA
  | .lasAbsy _ => 0xBB
  | .ldyAbsx _ => 0xBC
  | .ldaAbsx _ => 0xBD
  | .ldxAbsy _ => 0xBE
  | .laxAbsy _ => 0xBF
  | .cpyImm _ => 0xC0
  | .cmpIzx _ => 0xC1
  | .nopImmC2 _ => 0xC2
  | .dcpIzx _ => 0xC3
  | .cpyZp _ => 0xC4
  | .cmpZp _ => 0xC5
  | .decZp _ => 0xC6
  | .dcpZp _ => 0xC7
  | .iny => 0xC8
  | .cmpImm _ => 0xC9
  | .dex => 0xCA
  | .sbxImm _ => 0xCB
  | .cpyAbs _ => 0xCC
  | .cmpAbs _ => 0xCD
  | .decAbs _ => 0xCE
  | .dcpAbs _ => 0xCF
  | .bne _ => 0xD0
  | .cmpIzy _ => 0xD1
  | .jamD2 => 0xD2
  | .dcpIzy _ => 0xD3
  | .nopZpxD4 _ => 0xD4
  | .cmpZpx _ => 0xD5
  | .decZpx _ => 0xD6
  | .dcpZpx _ => 0xD7
  | .cld => 0xD8
  | .cmpAbsy _ => 0xD9
  | .nopImpDA => 0xDA
  | .dcpAbsy _ => 0xDB
  | .nopAbsxDC _ => 0xDC
  | .cmpAbsx _ => 0xDD
  | .decAbsx _ => 0xDE
  | .dcpAbsx _ => 0xDF
  | .cpxImm _ => 0xE0
  | .sbcIzx _ => 0xE1
  | .nopImmE2 _ => 0xE2
  | .iscIzx _ => 0xE3
  | .cpxZp _ => 0xE4
  | .sbcZp _ => 0xE5
  | .incZp _ => 0xE6
  | .iscZp _ => 0xE7
  | .inx => 0xE8
  | .sbcImm _ => 0xE9
  | .nop => 0xEA
  | .usbcImm _ => 0xEB
  | .cpxAbs _ => 0xEC
  | .sbcAbs _ => 0xED
  | .incAbs _ => 0xEE
  | .iscAbs _ => 0xEF
  | .beq _ => 0xF0
  | .sbcIzy _ => 0xF1
  | .jamF2 => 0xF2
  | .iscIzy _ => 0xF3
  | .nopZpxF4 _ => 0xF4
  | .sbcZpx _ => 0xF5
  | .incZpx _ => 0xF6
  | .iscZpx _ => 0xF7
  | .sed => 0xF8
  | .sbcAbsy _ => 0xF9
  | .nopImpFA => 0xFA
  | .iscAbsy _ => 0xFB
  | .nopAbsxFC _ => 0xFC
  | .sbcAbsx _ => 0xFD
  | .incAbsx _ => 0xFE
  | .iscAbsx _ => 0xFF

/-- The operand bytes, in address order (R300, R220). -/
def Instr.operandBytes : Instr → List Byte
  | .brk b => [b]
  | .oraIzx b => [b]
  | .jam02 => []
  | .sloIzx b => [b]
  | .nopZp04 b => [b]
  | .oraZp b => [b]
  | .aslZp b => [b]
  | .sloZp b => [b]
  | .php => []
  | .oraImm b => [b]
  | .aslAcc => []
  | .anc0B b => [b]
  | .nopAbs w => [loByte w, hiByte w]
  | .oraAbs w => [loByte w, hiByte w]
  | .aslAbs w => [loByte w, hiByte w]
  | .sloAbs w => [loByte w, hiByte w]
  | .bpl b => [b]
  | .oraIzy b => [b]
  | .jam12 => []
  | .sloIzy b => [b]
  | .nopZpx14 b => [b]
  | .oraZpx b => [b]
  | .aslZpx b => [b]
  | .sloZpx b => [b]
  | .clc => []
  | .oraAbsy w => [loByte w, hiByte w]
  | .nopImp1A => []
  | .sloAbsy w => [loByte w, hiByte w]
  | .nopAbsx1C w => [loByte w, hiByte w]
  | .oraAbsx w => [loByte w, hiByte w]
  | .aslAbsx w => [loByte w, hiByte w]
  | .sloAbsx w => [loByte w, hiByte w]
  | .jsrAbs w => [loByte w, hiByte w]
  | .andIzx b => [b]
  | .jam22 => []
  | .rlaIzx b => [b]
  | .bitZp b => [b]
  | .andZp b => [b]
  | .rolZp b => [b]
  | .rlaZp b => [b]
  | .plp => []
  | .andImm b => [b]
  | .rolAcc => []
  | .anc2B b => [b]
  | .bitAbs w => [loByte w, hiByte w]
  | .andAbs w => [loByte w, hiByte w]
  | .rolAbs w => [loByte w, hiByte w]
  | .rlaAbs w => [loByte w, hiByte w]
  | .bmi b => [b]
  | .andIzy b => [b]
  | .jam32 => []
  | .rlaIzy b => [b]
  | .nopZpx34 b => [b]
  | .andZpx b => [b]
  | .rolZpx b => [b]
  | .rlaZpx b => [b]
  | .sec => []
  | .andAbsy w => [loByte w, hiByte w]
  | .nopImp3A => []
  | .rlaAbsy w => [loByte w, hiByte w]
  | .nopAbsx3C w => [loByte w, hiByte w]
  | .andAbsx w => [loByte w, hiByte w]
  | .rolAbsx w => [loByte w, hiByte w]
  | .rlaAbsx w => [loByte w, hiByte w]
  | .rti => []
  | .eorIzx b => [b]
  | .jam42 => []
  | .sreIzx b => [b]
  | .nopZp44 b => [b]
  | .eorZp b => [b]
  | .lsrZp b => [b]
  | .sreZp b => [b]
  | .pha => []
  | .eorImm b => [b]
  | .lsrAcc => []
  | .alrImm b => [b]
  | .jmpAbs w => [loByte w, hiByte w]
  | .eorAbs w => [loByte w, hiByte w]
  | .lsrAbs w => [loByte w, hiByte w]
  | .sreAbs w => [loByte w, hiByte w]
  | .bvc b => [b]
  | .eorIzy b => [b]
  | .jam52 => []
  | .sreIzy b => [b]
  | .nopZpx54 b => [b]
  | .eorZpx b => [b]
  | .lsrZpx b => [b]
  | .sreZpx b => [b]
  | .cli => []
  | .eorAbsy w => [loByte w, hiByte w]
  | .nopImp5A => []
  | .sreAbsy w => [loByte w, hiByte w]
  | .nopAbsx5C w => [loByte w, hiByte w]
  | .eorAbsx w => [loByte w, hiByte w]
  | .lsrAbsx w => [loByte w, hiByte w]
  | .sreAbsx w => [loByte w, hiByte w]
  | .rts => []
  | .adcIzx b => [b]
  | .jam62 => []
  | .rraIzx b => [b]
  | .nopZp64 b => [b]
  | .adcZp b => [b]
  | .rorZp b => [b]
  | .rraZp b => [b]
  | .pla => []
  | .adcImm b => [b]
  | .rorAcc => []
  | .arrImm b => [b]
  | .jmpInd w => [loByte w, hiByte w]
  | .adcAbs w => [loByte w, hiByte w]
  | .rorAbs w => [loByte w, hiByte w]
  | .rraAbs w => [loByte w, hiByte w]
  | .bvs b => [b]
  | .adcIzy b => [b]
  | .jam72 => []
  | .rraIzy b => [b]
  | .nopZpx74 b => [b]
  | .adcZpx b => [b]
  | .rorZpx b => [b]
  | .rraZpx b => [b]
  | .sei => []
  | .adcAbsy w => [loByte w, hiByte w]
  | .nopImp7A => []
  | .rraAbsy w => [loByte w, hiByte w]
  | .nopAbsx7C w => [loByte w, hiByte w]
  | .adcAbsx w => [loByte w, hiByte w]
  | .rorAbsx w => [loByte w, hiByte w]
  | .rraAbsx w => [loByte w, hiByte w]
  | .nopImm80 b => [b]
  | .staIzx b => [b]
  | .nopImm82 b => [b]
  | .saxIzx b => [b]
  | .styZp b => [b]
  | .staZp b => [b]
  | .stxZp b => [b]
  | .saxZp b => [b]
  | .dey => []
  | .nopImm89 b => [b]
  | .txa => []
  | .aneImm b => [b]
  | .styAbs w => [loByte w, hiByte w]
  | .staAbs w => [loByte w, hiByte w]
  | .stxAbs w => [loByte w, hiByte w]
  | .saxAbs w => [loByte w, hiByte w]
  | .bcc b => [b]
  | .staIzy b => [b]
  | .jam92 => []
  | .shaIzy b => [b]
  | .styZpx b => [b]
  | .staZpx b => [b]
  | .stxZpy b => [b]
  | .saxZpy b => [b]
  | .tya => []
  | .staAbsy w => [loByte w, hiByte w]
  | .txs => []
  | .tasAbsy w => [loByte w, hiByte w]
  | .shyAbsx w => [loByte w, hiByte w]
  | .staAbsx w => [loByte w, hiByte w]
  | .shxAbsy w => [loByte w, hiByte w]
  | .shaAbsy w => [loByte w, hiByte w]
  | .ldyImm b => [b]
  | .ldaIzx b => [b]
  | .ldxImm b => [b]
  | .laxIzx b => [b]
  | .ldyZp b => [b]
  | .ldaZp b => [b]
  | .ldxZp b => [b]
  | .laxZp b => [b]
  | .tay => []
  | .ldaImm b => [b]
  | .tax => []
  | .lxaImm b => [b]
  | .ldyAbs w => [loByte w, hiByte w]
  | .ldaAbs w => [loByte w, hiByte w]
  | .ldxAbs w => [loByte w, hiByte w]
  | .laxAbs w => [loByte w, hiByte w]
  | .bcs b => [b]
  | .ldaIzy b => [b]
  | .jamB2 => []
  | .laxIzy b => [b]
  | .ldyZpx b => [b]
  | .ldaZpx b => [b]
  | .ldxZpy b => [b]
  | .laxZpy b => [b]
  | .clv => []
  | .ldaAbsy w => [loByte w, hiByte w]
  | .tsx => []
  | .lasAbsy w => [loByte w, hiByte w]
  | .ldyAbsx w => [loByte w, hiByte w]
  | .ldaAbsx w => [loByte w, hiByte w]
  | .ldxAbsy w => [loByte w, hiByte w]
  | .laxAbsy w => [loByte w, hiByte w]
  | .cpyImm b => [b]
  | .cmpIzx b => [b]
  | .nopImmC2 b => [b]
  | .dcpIzx b => [b]
  | .cpyZp b => [b]
  | .cmpZp b => [b]
  | .decZp b => [b]
  | .dcpZp b => [b]
  | .iny => []
  | .cmpImm b => [b]
  | .dex => []
  | .sbxImm b => [b]
  | .cpyAbs w => [loByte w, hiByte w]
  | .cmpAbs w => [loByte w, hiByte w]
  | .decAbs w => [loByte w, hiByte w]
  | .dcpAbs w => [loByte w, hiByte w]
  | .bne b => [b]
  | .cmpIzy b => [b]
  | .jamD2 => []
  | .dcpIzy b => [b]
  | .nopZpxD4 b => [b]
  | .cmpZpx b => [b]
  | .decZpx b => [b]
  | .dcpZpx b => [b]
  | .cld => []
  | .cmpAbsy w => [loByte w, hiByte w]
  | .nopImpDA => []
  | .dcpAbsy w => [loByte w, hiByte w]
  | .nopAbsxDC w => [loByte w, hiByte w]
  | .cmpAbsx w => [loByte w, hiByte w]
  | .decAbsx w => [loByte w, hiByte w]
  | .dcpAbsx w => [loByte w, hiByte w]
  | .cpxImm b => [b]
  | .sbcIzx b => [b]
  | .nopImmE2 b => [b]
  | .iscIzx b => [b]
  | .cpxZp b => [b]
  | .sbcZp b => [b]
  | .incZp b => [b]
  | .iscZp b => [b]
  | .inx => []
  | .sbcImm b => [b]
  | .nop => []
  | .usbcImm b => [b]
  | .cpxAbs w => [loByte w, hiByte w]
  | .sbcAbs w => [loByte w, hiByte w]
  | .incAbs w => [loByte w, hiByte w]
  | .iscAbs w => [loByte w, hiByte w]
  | .beq b => [b]
  | .sbcIzy b => [b]
  | .jamF2 => []
  | .iscIzy b => [b]
  | .nopZpxF4 b => [b]
  | .sbcZpx b => [b]
  | .incZpx b => [b]
  | .iscZpx b => [b]
  | .sed => []
  | .sbcAbsy w => [loByte w, hiByte w]
  | .nopImpFA => []
  | .iscAbsy w => [loByte w, hiByte w]
  | .nopAbsxFC w => [loByte w, hiByte w]
  | .sbcAbsx w => [loByte w, hiByte w]
  | .incAbsx w => [loByte w, hiByte w]
  | .iscAbsx w => [loByte w, hiByte w]

/-- The bytes of an instruction, in address order (R300). -/
def encode (i : Instr) : List Byte := i.opcode :: i.operandBytes

/-! ## The other columns of the listing of R321 -/

/-- The addressing mode (R321). -/
def Instr.mode : Instr → Mode
  | .brk _ => .imp
  | .oraIzx _ => .izx
  | .jam02 => .imp
  | .sloIzx _ => .izx
  | .nopZp04 _ => .zp
  | .oraZp _ => .zp
  | .aslZp _ => .zp
  | .sloZp _ => .zp
  | .php => .imp
  | .oraImm _ => .imm
  | .aslAcc => .acc
  | .anc0B _ => .imm
  | .nopAbs _ => .abs
  | .oraAbs _ => .abs
  | .aslAbs _ => .abs
  | .sloAbs _ => .abs
  | .bpl _ => .rel
  | .oraIzy _ => .izy
  | .jam12 => .imp
  | .sloIzy _ => .izy
  | .nopZpx14 _ => .zpx
  | .oraZpx _ => .zpx
  | .aslZpx _ => .zpx
  | .sloZpx _ => .zpx
  | .clc => .imp
  | .oraAbsy _ => .absy
  | .nopImp1A => .imp
  | .sloAbsy _ => .absy
  | .nopAbsx1C _ => .absx
  | .oraAbsx _ => .absx
  | .aslAbsx _ => .absx
  | .sloAbsx _ => .absx
  | .jsrAbs _ => .abs
  | .andIzx _ => .izx
  | .jam22 => .imp
  | .rlaIzx _ => .izx
  | .bitZp _ => .zp
  | .andZp _ => .zp
  | .rolZp _ => .zp
  | .rlaZp _ => .zp
  | .plp => .imp
  | .andImm _ => .imm
  | .rolAcc => .acc
  | .anc2B _ => .imm
  | .bitAbs _ => .abs
  | .andAbs _ => .abs
  | .rolAbs _ => .abs
  | .rlaAbs _ => .abs
  | .bmi _ => .rel
  | .andIzy _ => .izy
  | .jam32 => .imp
  | .rlaIzy _ => .izy
  | .nopZpx34 _ => .zpx
  | .andZpx _ => .zpx
  | .rolZpx _ => .zpx
  | .rlaZpx _ => .zpx
  | .sec => .imp
  | .andAbsy _ => .absy
  | .nopImp3A => .imp
  | .rlaAbsy _ => .absy
  | .nopAbsx3C _ => .absx
  | .andAbsx _ => .absx
  | .rolAbsx _ => .absx
  | .rlaAbsx _ => .absx
  | .rti => .imp
  | .eorIzx _ => .izx
  | .jam42 => .imp
  | .sreIzx _ => .izx
  | .nopZp44 _ => .zp
  | .eorZp _ => .zp
  | .lsrZp _ => .zp
  | .sreZp _ => .zp
  | .pha => .imp
  | .eorImm _ => .imm
  | .lsrAcc => .acc
  | .alrImm _ => .imm
  | .jmpAbs _ => .abs
  | .eorAbs _ => .abs
  | .lsrAbs _ => .abs
  | .sreAbs _ => .abs
  | .bvc _ => .rel
  | .eorIzy _ => .izy
  | .jam52 => .imp
  | .sreIzy _ => .izy
  | .nopZpx54 _ => .zpx
  | .eorZpx _ => .zpx
  | .lsrZpx _ => .zpx
  | .sreZpx _ => .zpx
  | .cli => .imp
  | .eorAbsy _ => .absy
  | .nopImp5A => .imp
  | .sreAbsy _ => .absy
  | .nopAbsx5C _ => .absx
  | .eorAbsx _ => .absx
  | .lsrAbsx _ => .absx
  | .sreAbsx _ => .absx
  | .rts => .imp
  | .adcIzx _ => .izx
  | .jam62 => .imp
  | .rraIzx _ => .izx
  | .nopZp64 _ => .zp
  | .adcZp _ => .zp
  | .rorZp _ => .zp
  | .rraZp _ => .zp
  | .pla => .imp
  | .adcImm _ => .imm
  | .rorAcc => .acc
  | .arrImm _ => .imm
  | .jmpInd _ => .ind
  | .adcAbs _ => .abs
  | .rorAbs _ => .abs
  | .rraAbs _ => .abs
  | .bvs _ => .rel
  | .adcIzy _ => .izy
  | .jam72 => .imp
  | .rraIzy _ => .izy
  | .nopZpx74 _ => .zpx
  | .adcZpx _ => .zpx
  | .rorZpx _ => .zpx
  | .rraZpx _ => .zpx
  | .sei => .imp
  | .adcAbsy _ => .absy
  | .nopImp7A => .imp
  | .rraAbsy _ => .absy
  | .nopAbsx7C _ => .absx
  | .adcAbsx _ => .absx
  | .rorAbsx _ => .absx
  | .rraAbsx _ => .absx
  | .nopImm80 _ => .imm
  | .staIzx _ => .izx
  | .nopImm82 _ => .imm
  | .saxIzx _ => .izx
  | .styZp _ => .zp
  | .staZp _ => .zp
  | .stxZp _ => .zp
  | .saxZp _ => .zp
  | .dey => .imp
  | .nopImm89 _ => .imm
  | .txa => .imp
  | .aneImm _ => .imm
  | .styAbs _ => .abs
  | .staAbs _ => .abs
  | .stxAbs _ => .abs
  | .saxAbs _ => .abs
  | .bcc _ => .rel
  | .staIzy _ => .izy
  | .jam92 => .imp
  | .shaIzy _ => .izy
  | .styZpx _ => .zpx
  | .staZpx _ => .zpx
  | .stxZpy _ => .zpy
  | .saxZpy _ => .zpy
  | .tya => .imp
  | .staAbsy _ => .absy
  | .txs => .imp
  | .tasAbsy _ => .absy
  | .shyAbsx _ => .absx
  | .staAbsx _ => .absx
  | .shxAbsy _ => .absy
  | .shaAbsy _ => .absy
  | .ldyImm _ => .imm
  | .ldaIzx _ => .izx
  | .ldxImm _ => .imm
  | .laxIzx _ => .izx
  | .ldyZp _ => .zp
  | .ldaZp _ => .zp
  | .ldxZp _ => .zp
  | .laxZp _ => .zp
  | .tay => .imp
  | .ldaImm _ => .imm
  | .tax => .imp
  | .lxaImm _ => .imm
  | .ldyAbs _ => .abs
  | .ldaAbs _ => .abs
  | .ldxAbs _ => .abs
  | .laxAbs _ => .abs
  | .bcs _ => .rel
  | .ldaIzy _ => .izy
  | .jamB2 => .imp
  | .laxIzy _ => .izy
  | .ldyZpx _ => .zpx
  | .ldaZpx _ => .zpx
  | .ldxZpy _ => .zpy
  | .laxZpy _ => .zpy
  | .clv => .imp
  | .ldaAbsy _ => .absy
  | .tsx => .imp
  | .lasAbsy _ => .absy
  | .ldyAbsx _ => .absx
  | .ldaAbsx _ => .absx
  | .ldxAbsy _ => .absy
  | .laxAbsy _ => .absy
  | .cpyImm _ => .imm
  | .cmpIzx _ => .izx
  | .nopImmC2 _ => .imm
  | .dcpIzx _ => .izx
  | .cpyZp _ => .zp
  | .cmpZp _ => .zp
  | .decZp _ => .zp
  | .dcpZp _ => .zp
  | .iny => .imp
  | .cmpImm _ => .imm
  | .dex => .imp
  | .sbxImm _ => .imm
  | .cpyAbs _ => .abs
  | .cmpAbs _ => .abs
  | .decAbs _ => .abs
  | .dcpAbs _ => .abs
  | .bne _ => .rel
  | .cmpIzy _ => .izy
  | .jamD2 => .imp
  | .dcpIzy _ => .izy
  | .nopZpxD4 _ => .zpx
  | .cmpZpx _ => .zpx
  | .decZpx _ => .zpx
  | .dcpZpx _ => .zpx
  | .cld => .imp
  | .cmpAbsy _ => .absy
  | .nopImpDA => .imp
  | .dcpAbsy _ => .absy
  | .nopAbsxDC _ => .absx
  | .cmpAbsx _ => .absx
  | .decAbsx _ => .absx
  | .dcpAbsx _ => .absx
  | .cpxImm _ => .imm
  | .sbcIzx _ => .izx
  | .nopImmE2 _ => .imm
  | .iscIzx _ => .izx
  | .cpxZp _ => .zp
  | .sbcZp _ => .zp
  | .incZp _ => .zp
  | .iscZp _ => .zp
  | .inx => .imp
  | .sbcImm _ => .imm
  | .nop => .imp
  | .usbcImm _ => .imm
  | .cpxAbs _ => .abs
  | .sbcAbs _ => .abs
  | .incAbs _ => .abs
  | .iscAbs _ => .abs
  | .beq _ => .rel
  | .sbcIzy _ => .izy
  | .jamF2 => .imp
  | .iscIzy _ => .izy
  | .nopZpxF4 _ => .zpx
  | .sbcZpx _ => .zpx
  | .incZpx _ => .zpx
  | .iscZpx _ => .zpx
  | .sed => .imp
  | .sbcAbsy _ => .absy
  | .nopImpFA => .imp
  | .iscAbsy _ => .absy
  | .nopAbsxFC _ => .absx
  | .sbcAbsx _ => .absx
  | .incAbsx _ => .absx
  | .iscAbsx _ => .absx

/-- The access class (R321). -/
def Instr.accessClass : Instr → AccessClass
  | .brk _ => .control
  | .oraIzx _ => .read
  | .jam02 => .implied
  | .sloIzx _ => .rmw
  | .nopZp04 _ => .read
  | .oraZp _ => .read
  | .aslZp _ => .rmw
  | .sloZp _ => .rmw
  | .php => .stack
  | .oraImm _ => .read
  | .aslAcc => .rmw
  | .anc0B _ => .read
  | .nopAbs _ => .read
  | .oraAbs _ => .read
  | .aslAbs _ => .rmw
  | .sloAbs _ => .rmw
  | .bpl _ => .control
  | .oraIzy _ => .read
  | .jam12 => .implied
  | .sloIzy _ => .rmw
  | .nopZpx14 _ => .read
  | .oraZpx _ => .read
  | .aslZpx _ => .rmw
  | .sloZpx _ => .rmw
  | .clc => .implied
  | .oraAbsy _ => .read
  | .nopImp1A => .implied
  | .sloAbsy _ => .rmw
  | .nopAbsx1C _ => .read
  | .oraAbsx _ => .read
  | .aslAbsx _ => .rmw
  | .sloAbsx _ => .rmw
  | .jsrAbs _ => .control
  | .andIzx _ => .read
  | .jam22 => .implied
  | .rlaIzx _ => .rmw
  | .bitZp _ => .read
  | .andZp _ => .read
  | .rolZp _ => .rmw
  | .rlaZp _ => .rmw
  | .plp => .stack
  | .andImm _ => .read
  | .rolAcc => .rmw
  | .anc2B _ => .read
  | .bitAbs _ => .read
  | .andAbs _ => .read
  | .rolAbs _ => .rmw
  | .rlaAbs _ => .rmw
  | .bmi _ => .control
  | .andIzy _ => .read
  | .jam32 => .implied
  | .rlaIzy _ => .rmw
  | .nopZpx34 _ => .read
  | .andZpx _ => .read
  | .rolZpx _ => .rmw
  | .rlaZpx _ => .rmw
  | .sec => .implied
  | .andAbsy _ => .read
  | .nopImp3A => .implied
  | .rlaAbsy _ => .rmw
  | .nopAbsx3C _ => .read
  | .andAbsx _ => .read
  | .rolAbsx _ => .rmw
  | .rlaAbsx _ => .rmw
  | .rti => .control
  | .eorIzx _ => .read
  | .jam42 => .implied
  | .sreIzx _ => .rmw
  | .nopZp44 _ => .read
  | .eorZp _ => .read
  | .lsrZp _ => .rmw
  | .sreZp _ => .rmw
  | .pha => .stack
  | .eorImm _ => .read
  | .lsrAcc => .rmw
  | .alrImm _ => .read
  | .jmpAbs _ => .control
  | .eorAbs _ => .read
  | .lsrAbs _ => .rmw
  | .sreAbs _ => .rmw
  | .bvc _ => .control
  | .eorIzy _ => .read
  | .jam52 => .implied
  | .sreIzy _ => .rmw
  | .nopZpx54 _ => .read
  | .eorZpx _ => .read
  | .lsrZpx _ => .rmw
  | .sreZpx _ => .rmw
  | .cli => .implied
  | .eorAbsy _ => .read
  | .nopImp5A => .implied
  | .sreAbsy _ => .rmw
  | .nopAbsx5C _ => .read
  | .eorAbsx _ => .read
  | .lsrAbsx _ => .rmw
  | .sreAbsx _ => .rmw
  | .rts => .control
  | .adcIzx _ => .read
  | .jam62 => .implied
  | .rraIzx _ => .rmw
  | .nopZp64 _ => .read
  | .adcZp _ => .read
  | .rorZp _ => .rmw
  | .rraZp _ => .rmw
  | .pla => .stack
  | .adcImm _ => .read
  | .rorAcc => .rmw
  | .arrImm _ => .read
  | .jmpInd _ => .control
  | .adcAbs _ => .read
  | .rorAbs _ => .rmw
  | .rraAbs _ => .rmw
  | .bvs _ => .control
  | .adcIzy _ => .read
  | .jam72 => .implied
  | .rraIzy _ => .rmw
  | .nopZpx74 _ => .read
  | .adcZpx _ => .read
  | .rorZpx _ => .rmw
  | .rraZpx _ => .rmw
  | .sei => .implied
  | .adcAbsy _ => .read
  | .nopImp7A => .implied
  | .rraAbsy _ => .rmw
  | .nopAbsx7C _ => .read
  | .adcAbsx _ => .read
  | .rorAbsx _ => .rmw
  | .rraAbsx _ => .rmw
  | .nopImm80 _ => .read
  | .staIzx _ => .write
  | .nopImm82 _ => .read
  | .saxIzx _ => .write
  | .styZp _ => .write
  | .staZp _ => .write
  | .stxZp _ => .write
  | .saxZp _ => .write
  | .dey => .implied
  | .nopImm89 _ => .read
  | .txa => .implied
  | .aneImm _ => .read
  | .styAbs _ => .write
  | .staAbs _ => .write
  | .stxAbs _ => .write
  | .saxAbs _ => .write
  | .bcc _ => .control
  | .staIzy _ => .write
  | .jam92 => .implied
  | .shaIzy _ => .write
  | .styZpx _ => .write
  | .staZpx _ => .write
  | .stxZpy _ => .write
  | .saxZpy _ => .write
  | .tya => .implied
  | .staAbsy _ => .write
  | .txs => .implied
  | .tasAbsy _ => .write
  | .shyAbsx _ => .write
  | .staAbsx _ => .write
  | .shxAbsy _ => .write
  | .shaAbsy _ => .write
  | .ldyImm _ => .read
  | .ldaIzx _ => .read
  | .ldxImm _ => .read
  | .laxIzx _ => .read
  | .ldyZp _ => .read
  | .ldaZp _ => .read
  | .ldxZp _ => .read
  | .laxZp _ => .read
  | .tay => .implied
  | .ldaImm _ => .read
  | .tax => .implied
  | .lxaImm _ => .read
  | .ldyAbs _ => .read
  | .ldaAbs _ => .read
  | .ldxAbs _ => .read
  | .laxAbs _ => .read
  | .bcs _ => .control
  | .ldaIzy _ => .read
  | .jamB2 => .implied
  | .laxIzy _ => .read
  | .ldyZpx _ => .read
  | .ldaZpx _ => .read
  | .ldxZpy _ => .read
  | .laxZpy _ => .read
  | .clv => .implied
  | .ldaAbsy _ => .read
  | .tsx => .implied
  | .lasAbsy _ => .read
  | .ldyAbsx _ => .read
  | .ldaAbsx _ => .read
  | .ldxAbsy _ => .read
  | .laxAbsy _ => .read
  | .cpyImm _ => .read
  | .cmpIzx _ => .read
  | .nopImmC2 _ => .read
  | .dcpIzx _ => .rmw
  | .cpyZp _ => .read
  | .cmpZp _ => .read
  | .decZp _ => .rmw
  | .dcpZp _ => .rmw
  | .iny => .implied
  | .cmpImm _ => .read
  | .dex => .implied
  | .sbxImm _ => .read
  | .cpyAbs _ => .read
  | .cmpAbs _ => .read
  | .decAbs _ => .rmw
  | .dcpAbs _ => .rmw
  | .bne _ => .control
  | .cmpIzy _ => .read
  | .jamD2 => .implied
  | .dcpIzy _ => .rmw
  | .nopZpxD4 _ => .read
  | .cmpZpx _ => .read
  | .decZpx _ => .rmw
  | .dcpZpx _ => .rmw
  | .cld => .implied
  | .cmpAbsy _ => .read
  | .nopImpDA => .implied
  | .dcpAbsy _ => .rmw
  | .nopAbsxDC _ => .read
  | .cmpAbsx _ => .read
  | .decAbsx _ => .rmw
  | .dcpAbsx _ => .rmw
  | .cpxImm _ => .read
  | .sbcIzx _ => .read
  | .nopImmE2 _ => .read
  | .iscIzx _ => .rmw
  | .cpxZp _ => .read
  | .sbcZp _ => .read
  | .incZp _ => .rmw
  | .iscZp _ => .rmw
  | .inx => .implied
  | .sbcImm _ => .read
  | .nop => .implied
  | .usbcImm _ => .read
  | .cpxAbs _ => .read
  | .sbcAbs _ => .read
  | .incAbs _ => .rmw
  | .iscAbs _ => .rmw
  | .beq _ => .control
  | .sbcIzy _ => .read
  | .jamF2 => .implied
  | .iscIzy _ => .rmw
  | .nopZpxF4 _ => .read
  | .sbcZpx _ => .read
  | .incZpx _ => .rmw
  | .iscZpx _ => .rmw
  | .sed => .implied
  | .sbcAbsy _ => .read
  | .nopImpFA => .implied
  | .iscAbsy _ => .rmw
  | .nopAbsxFC _ => .read
  | .sbcAbsx _ => .read
  | .incAbsx _ => .rmw
  | .iscAbsx _ => .rmw

/-- Documented, combined effect, or fallback (R321, R330). -/
def Instr.status : Instr → Status
  | .brk _ => .documented
  | .oraIzx _ => .documented
  | .jam02 => .fallback
  | .sloIzx _ => .combined
  | .nopZp04 _ => .combined
  | .oraZp _ => .documented
  | .aslZp _ => .documented
  | .sloZp _ => .combined
  | .php => .documented
  | .oraImm _ => .documented
  | .aslAcc => .documented
  | .anc0B _ => .combined
  | .nopAbs _ => .combined
  | .oraAbs _ => .documented
  | .aslAbs _ => .documented
  | .sloAbs _ => .combined
  | .bpl _ => .documented
  | .oraIzy _ => .documented
  | .jam12 => .fallback
  | .sloIzy _ => .combined
  | .nopZpx14 _ => .combined
  | .oraZpx _ => .documented
  | .aslZpx _ => .documented
  | .sloZpx _ => .combined
  | .clc => .documented
  | .oraAbsy _ => .documented
  | .nopImp1A => .combined
  | .sloAbsy _ => .combined
  | .nopAbsx1C _ => .combined
  | .oraAbsx _ => .documented
  | .aslAbsx _ => .documented
  | .sloAbsx _ => .combined
  | .jsrAbs _ => .documented
  | .andIzx _ => .documented
  | .jam22 => .fallback
  | .rlaIzx _ => .combined
  | .bitZp _ => .documented
  | .andZp _ => .documented
  | .rolZp _ => .documented
  | .rlaZp _ => .combined
  | .plp => .documented
  | .andImm _ => .documented
  | .rolAcc => .documented
  | .anc2B _ => .combined
  | .bitAbs _ => .documented
  | .andAbs _ => .documented
  | .rolAbs _ => .documented
  | .rlaAbs _ => .combined
  | .bmi _ => .documented
  | .andIzy _ => .documented
  | .jam32 => .fallback
  | .rlaIzy _ => .combined
  | .nopZpx34 _ => .combined
  | .andZpx _ => .documented
  | .rolZpx _ => .documented
  | .rlaZpx _ => .combined
  | .sec => .documented
  | .andAbsy _ => .documented
  | .nopImp3A => .combined
  | .rlaAbsy _ => .combined
  | .nopAbsx3C _ => .combined
  | .andAbsx _ => .documented
  | .rolAbsx _ => .documented
  | .rlaAbsx _ => .combined
  | .rti => .documented
  | .eorIzx _ => .documented
  | .jam42 => .fallback
  | .sreIzx _ => .combined
  | .nopZp44 _ => .combined
  | .eorZp _ => .documented
  | .lsrZp _ => .documented
  | .sreZp _ => .combined
  | .pha => .documented
  | .eorImm _ => .documented
  | .lsrAcc => .documented
  | .alrImm _ => .combined
  | .jmpAbs _ => .documented
  | .eorAbs _ => .documented
  | .lsrAbs _ => .documented
  | .sreAbs _ => .combined
  | .bvc _ => .documented
  | .eorIzy _ => .documented
  | .jam52 => .fallback
  | .sreIzy _ => .combined
  | .nopZpx54 _ => .combined
  | .eorZpx _ => .documented
  | .lsrZpx _ => .documented
  | .sreZpx _ => .combined
  | .cli => .documented
  | .eorAbsy _ => .documented
  | .nopImp5A => .combined
  | .sreAbsy _ => .combined
  | .nopAbsx5C _ => .combined
  | .eorAbsx _ => .documented
  | .lsrAbsx _ => .documented
  | .sreAbsx _ => .combined
  | .rts => .documented
  | .adcIzx _ => .documented
  | .jam62 => .fallback
  | .rraIzx _ => .combined
  | .nopZp64 _ => .combined
  | .adcZp _ => .documented
  | .rorZp _ => .documented
  | .rraZp _ => .combined
  | .pla => .documented
  | .adcImm _ => .documented
  | .rorAcc => .documented
  | .arrImm _ => .combined
  | .jmpInd _ => .documented
  | .adcAbs _ => .documented
  | .rorAbs _ => .documented
  | .rraAbs _ => .combined
  | .bvs _ => .documented
  | .adcIzy _ => .documented
  | .jam72 => .fallback
  | .rraIzy _ => .combined
  | .nopZpx74 _ => .combined
  | .adcZpx _ => .documented
  | .rorZpx _ => .documented
  | .rraZpx _ => .combined
  | .sei => .documented
  | .adcAbsy _ => .documented
  | .nopImp7A => .combined
  | .rraAbsy _ => .combined
  | .nopAbsx7C _ => .combined
  | .adcAbsx _ => .documented
  | .rorAbsx _ => .documented
  | .rraAbsx _ => .combined
  | .nopImm80 _ => .combined
  | .staIzx _ => .documented
  | .nopImm82 _ => .combined
  | .saxIzx _ => .combined
  | .styZp _ => .documented
  | .staZp _ => .documented
  | .stxZp _ => .documented
  | .saxZp _ => .combined
  | .dey => .documented
  | .nopImm89 _ => .combined
  | .txa => .documented
  | .aneImm _ => .fallback
  | .styAbs _ => .documented
  | .staAbs _ => .documented
  | .stxAbs _ => .documented
  | .saxAbs _ => .combined
  | .bcc _ => .documented
  | .staIzy _ => .documented
  | .jam92 => .fallback
  | .shaIzy _ => .fallback
  | .styZpx _ => .documented
  | .staZpx _ => .documented
  | .stxZpy _ => .documented
  | .saxZpy _ => .combined
  | .tya => .documented
  | .staAbsy _ => .documented
  | .txs => .documented
  | .tasAbsy _ => .fallback
  | .shyAbsx _ => .fallback
  | .staAbsx _ => .documented
  | .shxAbsy _ => .fallback
  | .shaAbsy _ => .fallback
  | .ldyImm _ => .documented
  | .ldaIzx _ => .documented
  | .ldxImm _ => .documented
  | .laxIzx _ => .combined
  | .ldyZp _ => .documented
  | .ldaZp _ => .documented
  | .ldxZp _ => .documented
  | .laxZp _ => .combined
  | .tay => .documented
  | .ldaImm _ => .documented
  | .tax => .documented
  | .lxaImm _ => .fallback
  | .ldyAbs _ => .documented
  | .ldaAbs _ => .documented
  | .ldxAbs _ => .documented
  | .laxAbs _ => .combined
  | .bcs _ => .documented
  | .ldaIzy _ => .documented
  | .jamB2 => .fallback
  | .laxIzy _ => .combined
  | .ldyZpx _ => .documented
  | .ldaZpx _ => .documented
  | .ldxZpy _ => .documented
  | .laxZpy _ => .combined
  | .clv => .documented
  | .ldaAbsy _ => .documented
  | .tsx => .documented
  | .lasAbsy _ => .combined
  | .ldyAbsx _ => .documented
  | .ldaAbsx _ => .documented
  | .ldxAbsy _ => .documented
  | .laxAbsy _ => .combined
  | .cpyImm _ => .documented
  | .cmpIzx _ => .documented
  | .nopImmC2 _ => .combined
  | .dcpIzx _ => .combined
  | .cpyZp _ => .documented
  | .cmpZp _ => .documented
  | .decZp _ => .documented
  | .dcpZp _ => .combined
  | .iny => .documented
  | .cmpImm _ => .documented
  | .dex => .documented
  | .sbxImm _ => .combined
  | .cpyAbs _ => .documented
  | .cmpAbs _ => .documented
  | .decAbs _ => .documented
  | .dcpAbs _ => .combined
  | .bne _ => .documented
  | .cmpIzy _ => .documented
  | .jamD2 => .fallback
  | .dcpIzy _ => .combined
  | .nopZpxD4 _ => .combined
  | .cmpZpx _ => .documented
  | .decZpx _ => .documented
  | .dcpZpx _ => .combined
  | .cld => .documented
  | .cmpAbsy _ => .documented
  | .nopImpDA => .combined
  | .dcpAbsy _ => .combined
  | .nopAbsxDC _ => .combined
  | .cmpAbsx _ => .documented
  | .decAbsx _ => .documented
  | .dcpAbsx _ => .combined
  | .cpxImm _ => .documented
  | .sbcIzx _ => .documented
  | .nopImmE2 _ => .combined
  | .iscIzx _ => .combined
  | .cpxZp _ => .documented
  | .sbcZp _ => .documented
  | .incZp _ => .documented
  | .iscZp _ => .combined
  | .inx => .documented
  | .sbcImm _ => .documented
  | .nop => .documented
  | .usbcImm _ => .combined
  | .cpxAbs _ => .documented
  | .sbcAbs _ => .documented
  | .incAbs _ => .documented
  | .iscAbs _ => .combined
  | .beq _ => .documented
  | .sbcIzy _ => .documented
  | .jamF2 => .fallback
  | .iscIzy _ => .combined
  | .nopZpxF4 _ => .combined
  | .sbcZpx _ => .documented
  | .incZpx _ => .documented
  | .iscZpx _ => .combined
  | .sed => .documented
  | .sbcAbsy _ => .documented
  | .nopImpFA => .combined
  | .iscAbsy _ => .combined
  | .nopAbsxFC _ => .combined
  | .sbcAbsx _ => .documented
  | .incAbsx _ => .documented
  | .iscAbsx _ => .combined

/-- The constant part of the cycle column (R321). -/
def Instr.baseCycles : Instr → Nat
  | .brk _ => 7
  | .oraIzx _ => 6
  | .jam02 => 2
  | .sloIzx _ => 8
  | .nopZp04 _ => 3
  | .oraZp _ => 3
  | .aslZp _ => 5
  | .sloZp _ => 5
  | .php => 3
  | .oraImm _ => 2
  | .aslAcc => 2
  | .anc0B _ => 2
  | .nopAbs _ => 4
  | .oraAbs _ => 4
  | .aslAbs _ => 6
  | .sloAbs _ => 6
  | .bpl _ => 2
  | .oraIzy _ => 5
  | .jam12 => 2
  | .sloIzy _ => 8
  | .nopZpx14 _ => 4
  | .oraZpx _ => 4
  | .aslZpx _ => 6
  | .sloZpx _ => 6
  | .clc => 2
  | .oraAbsy _ => 4
  | .nopImp1A => 2
  | .sloAbsy _ => 7
  | .nopAbsx1C _ => 4
  | .oraAbsx _ => 4
  | .aslAbsx _ => 7
  | .sloAbsx _ => 7
  | .jsrAbs _ => 6
  | .andIzx _ => 6
  | .jam22 => 2
  | .rlaIzx _ => 8
  | .bitZp _ => 3
  | .andZp _ => 3
  | .rolZp _ => 5
  | .rlaZp _ => 5
  | .plp => 4
  | .andImm _ => 2
  | .rolAcc => 2
  | .anc2B _ => 2
  | .bitAbs _ => 4
  | .andAbs _ => 4
  | .rolAbs _ => 6
  | .rlaAbs _ => 6
  | .bmi _ => 2
  | .andIzy _ => 5
  | .jam32 => 2
  | .rlaIzy _ => 8
  | .nopZpx34 _ => 4
  | .andZpx _ => 4
  | .rolZpx _ => 6
  | .rlaZpx _ => 6
  | .sec => 2
  | .andAbsy _ => 4
  | .nopImp3A => 2
  | .rlaAbsy _ => 7
  | .nopAbsx3C _ => 4
  | .andAbsx _ => 4
  | .rolAbsx _ => 7
  | .rlaAbsx _ => 7
  | .rti => 6
  | .eorIzx _ => 6
  | .jam42 => 2
  | .sreIzx _ => 8
  | .nopZp44 _ => 3
  | .eorZp _ => 3
  | .lsrZp _ => 5
  | .sreZp _ => 5
  | .pha => 3
  | .eorImm _ => 2
  | .lsrAcc => 2
  | .alrImm _ => 2
  | .jmpAbs _ => 3
  | .eorAbs _ => 4
  | .lsrAbs _ => 6
  | .sreAbs _ => 6
  | .bvc _ => 2
  | .eorIzy _ => 5
  | .jam52 => 2
  | .sreIzy _ => 8
  | .nopZpx54 _ => 4
  | .eorZpx _ => 4
  | .lsrZpx _ => 6
  | .sreZpx _ => 6
  | .cli => 2
  | .eorAbsy _ => 4
  | .nopImp5A => 2
  | .sreAbsy _ => 7
  | .nopAbsx5C _ => 4
  | .eorAbsx _ => 4
  | .lsrAbsx _ => 7
  | .sreAbsx _ => 7
  | .rts => 6
  | .adcIzx _ => 6
  | .jam62 => 2
  | .rraIzx _ => 8
  | .nopZp64 _ => 3
  | .adcZp _ => 3
  | .rorZp _ => 5
  | .rraZp _ => 5
  | .pla => 4
  | .adcImm _ => 2
  | .rorAcc => 2
  | .arrImm _ => 2
  | .jmpInd _ => 5
  | .adcAbs _ => 4
  | .rorAbs _ => 6
  | .rraAbs _ => 6
  | .bvs _ => 2
  | .adcIzy _ => 5
  | .jam72 => 2
  | .rraIzy _ => 8
  | .nopZpx74 _ => 4
  | .adcZpx _ => 4
  | .rorZpx _ => 6
  | .rraZpx _ => 6
  | .sei => 2
  | .adcAbsy _ => 4
  | .nopImp7A => 2
  | .rraAbsy _ => 7
  | .nopAbsx7C _ => 4
  | .adcAbsx _ => 4
  | .rorAbsx _ => 7
  | .rraAbsx _ => 7
  | .nopImm80 _ => 2
  | .staIzx _ => 6
  | .nopImm82 _ => 2
  | .saxIzx _ => 6
  | .styZp _ => 3
  | .staZp _ => 3
  | .stxZp _ => 3
  | .saxZp _ => 3
  | .dey => 2
  | .nopImm89 _ => 2
  | .txa => 2
  | .aneImm _ => 2
  | .styAbs _ => 4
  | .staAbs _ => 4
  | .stxAbs _ => 4
  | .saxAbs _ => 4
  | .bcc _ => 2
  | .staIzy _ => 6
  | .jam92 => 2
  | .shaIzy _ => 6
  | .styZpx _ => 4
  | .staZpx _ => 4
  | .stxZpy _ => 4
  | .saxZpy _ => 4
  | .tya => 2
  | .staAbsy _ => 5
  | .txs => 2
  | .tasAbsy _ => 5
  | .shyAbsx _ => 5
  | .staAbsx _ => 5
  | .shxAbsy _ => 5
  | .shaAbsy _ => 5
  | .ldyImm _ => 2
  | .ldaIzx _ => 6
  | .ldxImm _ => 2
  | .laxIzx _ => 6
  | .ldyZp _ => 3
  | .ldaZp _ => 3
  | .ldxZp _ => 3
  | .laxZp _ => 3
  | .tay => 2
  | .ldaImm _ => 2
  | .tax => 2
  | .lxaImm _ => 2
  | .ldyAbs _ => 4
  | .ldaAbs _ => 4
  | .ldxAbs _ => 4
  | .laxAbs _ => 4
  | .bcs _ => 2
  | .ldaIzy _ => 5
  | .jamB2 => 2
  | .laxIzy _ => 5
  | .ldyZpx _ => 4
  | .ldaZpx _ => 4
  | .ldxZpy _ => 4
  | .laxZpy _ => 4
  | .clv => 2
  | .ldaAbsy _ => 4
  | .tsx => 2
  | .lasAbsy _ => 4
  | .ldyAbsx _ => 4
  | .ldaAbsx _ => 4
  | .ldxAbsy _ => 4
  | .laxAbsy _ => 4
  | .cpyImm _ => 2
  | .cmpIzx _ => 6
  | .nopImmC2 _ => 2
  | .dcpIzx _ => 8
  | .cpyZp _ => 3
  | .cmpZp _ => 3
  | .decZp _ => 5
  | .dcpZp _ => 5
  | .iny => 2
  | .cmpImm _ => 2
  | .dex => 2
  | .sbxImm _ => 2
  | .cpyAbs _ => 4
  | .cmpAbs _ => 4
  | .decAbs _ => 6
  | .dcpAbs _ => 6
  | .bne _ => 2
  | .cmpIzy _ => 5
  | .jamD2 => 2
  | .dcpIzy _ => 8
  | .nopZpxD4 _ => 4
  | .cmpZpx _ => 4
  | .decZpx _ => 6
  | .dcpZpx _ => 6
  | .cld => 2
  | .cmpAbsy _ => 4
  | .nopImpDA => 2
  | .dcpAbsy _ => 7
  | .nopAbsxDC _ => 4
  | .cmpAbsx _ => 4
  | .decAbsx _ => 7
  | .dcpAbsx _ => 7
  | .cpxImm _ => 2
  | .sbcIzx _ => 6
  | .nopImmE2 _ => 2
  | .iscIzx _ => 8
  | .cpxZp _ => 3
  | .sbcZp _ => 3
  | .incZp _ => 5
  | .iscZp _ => 5
  | .inx => 2
  | .sbcImm _ => 2
  | .nop => 2
  | .usbcImm _ => 2
  | .cpxAbs _ => 4
  | .sbcAbs _ => 4
  | .incAbs _ => 6
  | .iscAbs _ => 6
  | .beq _ => 2
  | .sbcIzy _ => 5
  | .jamF2 => 2
  | .iscIzy _ => 8
  | .nopZpxF4 _ => 4
  | .sbcZpx _ => 4
  | .incZpx _ => 6
  | .iscZpx _ => 6
  | .sed => 2
  | .sbcAbsy _ => 4
  | .nopImpFA => 2
  | .iscAbsy _ => 7
  | .nopAbsxFC _ => 4
  | .sbcAbsx _ => 4
  | .incAbsx _ => 7
  | .iscAbsx _ => 7

/-- Whether the cycle column has the page term `p` of an indexed read (R321). -/
def Instr.pageTerm (i : Instr) : Bool :=
  (i.accessClass == .read && i.status != .fallback) && (i.mode == .absx || i.mode == .absy || i.mode == .izy)

end Sys2Proof
end

