-- ==== Sys2Proof/Config.lean ====
section
/-! DEFINITION. The implementation parameters of R9 (file 00) and the OPEN parameters of file 92, each at the
value this system or the spec's reference takes, and the free values of the model. -/

namespace Sys2Proof

/-- The two independent address spaces (R200). -/
inductive Space
  | cpu
  | ppu
  deriving DecidableEq, Repr

namespace Config

/-- `DECIMAL_PRESENT` (R9, R10): false for this system, the NES-specific variant. -/
def decimalPresent : Bool := false

/-- `CPU_DIV` (R9, R1100). -/
def cpuDiv : Nat := 12

/-- `PPU_DIV` (R9, R1100). -/
def ppuDiv : Nat := 4

/-- `LINES_PER_FRAME` (R9). -/
def linesPerFrame : Nat := 262

/-- `DOTS_PER_LINE` (R9). -/
def dotsPerLine : Nat := 341

/-- `FB_WIDTH` (R9). -/
def fbWidth : Nat := 256

/-- `FB_HEIGHT` (R9). -/
def fbHeight : Nat := 240

/-- `DMA_STALL_EVEN` (R9, R1240). -/
def dmaStallEven : Nat := 513

/-- `DMA_STALL_ODD` (R9, R1240). -/
def dmaStallOdd : Nat := 514

/-- `POWERUP_A` (R9, D9). DESIGN CHOICE (log 2): OPEN in the spec, here its reference value 0; unsafe. -/
def powerupA : Byte := 0

/-- `POWERUP_X` (R9, D9). DESIGN CHOICE (log 2): OPEN in the spec, here its reference value 0; unsafe. -/
def powerupX : Byte := 0

/-- `POWERUP_Y` (R9, D9). DESIGN CHOICE (log 2): OPEN in the spec, here its reference value 0; unsafe. -/
def powerupY : Byte := 0

/-- `OAM_INIT` (R9, D37). DESIGN CHOICE (log 4): OPEN in the spec, here its reference value; unsafe. -/
def oamInit : Byte := 0

/-- `PALETTE_INIT` (R9, D37). DESIGN CHOICE (log 4): OPEN in the spec, here its reference value; unsafe. -/
def paletteInit : BitVec 6 := 0

/-- The identity of the PPU as a source of the NMI line, its only source in the CORE (R122, R1003). -/
def ppuNmiSource : Nat := 0

/-- FREE VALUE (log 6): the byte the `n`-th read of an external device (a device outside the CORE, R6) returns in
the given address space. Nothing constrains it. -/
opaque externalByte : Space → Nat → Byte

end Config
end Sys2Proof
end

