-- ==== Sys2Proof/Machine/State.lean ====
section
/-! DEFINITION. The whole state of the CORE as plain data (file 10; devices and ports of file 20), the reasons a step
can stop, and the state after `power_cycle()` (R160, R1132). The frame lemmas of its update functions are in
Sys2Proof/Laws/State.lean. -/

namespace Sys2Proof.Machine

/-- The one way the CORE stops (R14, R1000 class 4, R1540). -/
inductive Fault
  /-- `Fault(OffsetPastDevice)` (R205): a port handed its device an offset the device does not have. Raised by the
  access operations of either address space; safe (the spec stops there too: "fatal assertion"). -/
  | offsetPastDevice
  deriving DecidableEq, Repr

/-- Reasons to refuse an instruction. -/
inductive Refusal
  /-- No meaning is given to the instruction. Raised by no arm of `exec` in this model; safe. -/
  | notModelled (mnemonic : String)
  deriving DecidableEq, Repr

/-- Setup-time rejections of a host call (R203, R1000 class 1); never a step's outcome. -/
inductive ConfigError
  | nullDevice
  | outOfSpace
  | overlap
  deriving DecidableEq, Repr

/-! ## Memories and devices -/

/-- A sparse memory of `w`-bit cells: (index, value) pairs with rising indexes and no listed value 0, which is what
an unlisted cell reads as (log 4). -/
abbrev Cells (w : Nat) := List (Nat × BitVec w)

/-- What a device is (R206, R1200, R1240, R6). -/
inductive DeviceKind
  /-- Returns the value last written at the same backing cell (R206). -/
  | ram
  /-- Read only (R206). -/
  | rom
  /-- The PPU register block (R1200). -/
  | ppuRegisters
  /-- The write-only OAMDMA register (R1240). -/
  | oamDma
  /-- A device outside the CORE, such as the APU and controller registers (R6, R240): what it answers is free. -/
  | external
  deriving DecidableEq, Repr

/-- A device under the contract of R201. -/
structure Device where
  kind : DeviceKind
  /-- `size()`: the number of offsets the device accepts. -/
  size : Nat
  /-- The number of backing cells: an offset is reduced modulo this (R205, mirroring by the device). -/
  mirror : Nat
  /-- `valid()`: whether the device currently drives the bus. -/
  valid : Bool
  /-- Whether the device has the optional `poke`. -/
  pokeable : Bool
  /-- The backing cells of a RAM or ROM device. -/
  cells : Cells 8
  deriving DecidableEq, Repr

/-- A port (R202): the device's place in the device list, and the addresses it covers. -/
structure Port where
  device : Nat
  base : Nat
  size : Nat
  deriving DecidableEq, Repr

/-- One AddressSpace instance (R120). -/
structure AddressSpace where
  reads : List Port
  writes : List Port
  /-- The open-bus latch, the "last-bus-value". -/
  openBus : Byte
  /-- How many external-device reads this instance has made: the index of the next free value (log 6). -/
  draws : Nat
  /-- The Fault an access of this instance raised, if any (R205, R14; log 17). -/
  fault : Option Fault
  deriving DecidableEq, Repr

/-! ## Interrupt lines -/

/-- The level-sensitive IRQ line (R121): the asserted sources, rising, no repeats. -/
structure IrqLine where
  sources : List Nat
  deriving DecidableEq, Repr

/-- The edge-sensitive NMI line (R122). -/
structure NmiLine where
  sources : List Nat
  edgePending : Bool
  deriving DecidableEq, Repr

/-! ## The CPU -/

/-- The six flags held in P (R104, R105). -/
structure Flags where
  c : Bool
  z : Bool
  i : Bool
  d : Bool
  v : Bool
  n : Bool
  deriving DecidableEq, Repr

/-- The two hardware interrupt sequences (R1030). -/
inductive Interrupt
  | nmi
  | irq
  deriving DecidableEq, Repr

/-- What the CPU's next cycle belongs to (R107). -/
inductive Phase
  /-- The reset sequence (R1040). -/
  | reset
  /-- T1 of the next instruction (R401). -/
  | fetch
  /-- A later cycle of the current instruction. -/
  | execute
  /-- The extra cycle of a decimal-mode instruction (R602). -/
  | decimalExtra
  /-- An interrupt sequence (R1030). -/
  | interrupt (kind : Interrupt)
  deriving DecidableEq, Repr

/-- The CPU: registers (R100 to R105), interrupt delay (R108) and hidden execution state (R107). -/
structure Cpu where
  a : Byte
  x : Byte
  y : Byte
  s : Byte
  p : Flags
  pc : Word
  irqInhibit : Bool
  phase : Phase
  /-- The number of the next cycle within the current sequence, from 1. -/
  cycle : Nat
  opcode : Byte
  lo : Byte
  hi : Byte
  ptr : Byte
  ea : Word
  val : Byte
  offset : Byte
  crossed : Bool
  deriving DecidableEq, Repr

/-! ## The PPU -/

/-- The state of sprite evaluation (R145, R1420). -/
inductive EvalPhase
  | scan
  | copy (k : Nat)
  | overflow
  | done
  deriving DecidableEq, Repr

/-- One of the eight sprite units (R144). -/
structure SpriteUnit where
  lo : Byte
  hi : Byte
  attr : Byte
  x : Byte
  deriving DecidableEq, Repr

/-- The PPU's registers, memories, pipelines and position (R130 to R147). -/
structure Ppu where
  ctrl : Byte
  mask : Byte
  vbl : Bool
  spr0Hit : Bool
  sprOverflow : Bool
  oamAddr : Byte
  v : BitVec 15
  t : BitVec 15
  x : BitVec 3
  w : Bool
  readBuffer : Byte
  ioLatch : Byte
  oam : Vector Byte 256
  oam2 : Vector Byte 32
  spr0Next : Bool
  palette : Vector (BitVec 6) 32
  ntByte : Byte
  atBits : BitVec 2
  ptLo : Byte
  ptHi : Byte
  bgLo : BitVec 16
  bgHi : BitVec 16
  atLo : BitVec 16
  atHi : BitVec 16
  units : Vector SpriteUnit 8
  /-- The low pattern byte between the two fetches of a sprite: the saved local `lo` of R1422 (R1121). The spec gives
  it no reset value and none for a fetch that was not made (log 34, DESIGN CHOICE). -/
  sprFetchLo : Byte
  spr0Line : Bool
  sprCountLine : Nat
  evalN : Nat
  evalM : Nat
  evalFound : Nat
  evalPhase : EvalPhase
  scanline : Nat
  dot : Nat
  oddFrame : Bool
  nmiOut : Bool
  vblSuppress : Bool
  /-- Pixel (line `l`, column `X`) is cell `256 * l + X` (R147; log 24). -/
  framebuffer : Cells 6
  deriving DecidableEq, Repr

/-- What a PPU dot may change: the PPU, its own address space, and the NMI line it drives. -/
structure Video where
  ppu : Ppu
  bus : AddressSpace
  nmi : NmiLine
  deriving DecidableEq, Repr

/-! ## The scheduler -/

/-- A divided clock receiver (R150, R1101). -/
structure Receiver where
  divisor : Nat
  countdown : Nat
  skip : Nat
  deriving DecidableEq, Repr

/-- The scheduler (R150) and the count of CPU activations (R109). -/
structure Sched where
  masterTick : Nat
  cpu : Receiver
  ppu : Receiver
  cpuCycles : Nat
  deriving DecidableEq, Repr

/-- A record of a fallback opcode executed (R14, R820). -/
structure Diagnostic where
  pc : Word
  opcode : Byte
  deriving DecidableEq, Repr

/-- The whole machine. -/
structure State where
  cpu : Cpu
  cpuBus : AddressSpace
  devices : List Device
  irq : IrqLine
  video : Video
  sched : Sched
  /-- Newest first (log 15). -/
  diagnostics : List Diagnostic
  deriving DecidableEq, Repr

/-! ## Update functions -/

namespace State

def setCpu (s : State) (c : Cpu) : State := { s with cpu := c }
def mapCpu (s : State) (f : Cpu → Cpu) : State := { s with cpu := f s.cpu }
def setCpuBus (s : State) (b : AddressSpace) : State := { s with cpuBus := b }
def setDevices (s : State) (d : List Device) : State := { s with devices := d }
def setIrq (s : State) (l : IrqLine) : State := { s with irq := l }
def setVideo (s : State) (v : Video) : State := { s with video := v }
def setSched (s : State) (c : Sched) : State := { s with sched := c }
def logDiagnostic (s : State) (d : Diagnostic) : State := { s with diagnostics := d :: s.diagnostics }

/-- Whether an access has raised a Fault (R14): the model has stopped (log 17). -/
def faulted (s : State) : Bool := s.cpuBus.fault.isSome || s.video.bus.fault.isSome

end State

/-! ## Power-up (R160, R1132) -/

/-- The CPU at power-up, before the reset sequence (R160; logs 2 and 3). -/
def Cpu.powerUp : Cpu where
  a := Config.powerupA
  x := Config.powerupX
  y := Config.powerupY
  s := 0
  p := { c := false, z := false, i := true, d := false, v := false, n := false }
  pc := 0
  irqInhibit := false
  phase := .reset
  cycle := 1
  opcode := 0
  lo := 0
  hi := 0
  ptr := 0
  ea := 0
  val := 0
  offset := 0
  crossed := false

/-- The PPU at power-up (R160; log 4 for `oam` and `palette`). DESIGN CHOICE, unsafe: R160 has no row for `spr0_next`
(log 33) and for the saved local `lo` of R1422 (log 34), here both 0. -/
def Ppu.powerUp : Ppu where
  ctrl := 0
  mask := 0
  vbl := false
  spr0Hit := false
  sprOverflow := false
  oamAddr := 0
  v := 0
  t := 0
  x := 0
  w := false
  readBuffer := 0
  ioLatch := 0
  oam := Vector.replicate 256 Config.oamInit
  oam2 := Vector.replicate 32 0xFF
  spr0Next := false
  palette := Vector.replicate 32 Config.paletteInit
  ntByte := 0
  atBits := 0
  ptLo := 0
  ptHi := 0
  bgLo := 0
  bgHi := 0
  atLo := 0
  atHi := 0
  units := Vector.replicate 8 { lo := 0, hi := 0, attr := 0, x := 0 }
  sprFetchLo := 0
  spr0Line := false
  sprCountLine := 0
  evalN := 0
  evalM := 0
  evalFound := 0
  evalPhase := .done
  scanline := 0
  dot := 0
  oddFrame := false
  nmiOut := false
  vblSuppress := false
  framebuffer := []

/-- A receiver after construction or a scheduler reset (R1101). -/
def Receiver.fresh (divisor : Nat) : Receiver := { divisor := divisor, countdown := divisor, skip := 0 }

/-- The scheduler at power-up (R160). -/
def Sched.powerUp : Sched where
  masterTick := 0
  cpu := Receiver.fresh Config.cpuDiv
  ppu := Receiver.fresh Config.ppuDiv
  cpuCycles := 0

/-- The reference platform's devices (R240, R241; log 5). -/
def referenceDevices : List Device :=
  [ { kind := .ram, size := 0x2000, mirror := 0x800, valid := true, pokeable := true, cells := [] },
    { kind := .ppuRegisters, size := 0x2000, mirror := 8, valid := true, pokeable := true, cells := [] },
    { kind := .oamDma, size := 1, mirror := 1, valid := true, pokeable := false, cells := [] },
    { kind := .rom, size := 0x8000, mirror := 0x8000, valid := true, pokeable := true, cells := [] },
    { kind := .external, size := 0x14, mirror := 0x14, valid := true, pokeable := false, cells := [] },
    { kind := .external, size := 3, mirror := 3, valid := true, pokeable := false, cells := [] },
    { kind := .ram, size := 0x2000, mirror := 0x2000, valid := true, pokeable := true, cells := [] },
    { kind := .ram, size := 0x1F00, mirror := 0x800, valid := true, pokeable := true, cells := [] } ]

/-- The CPU AddressSpace at power-up with the reference map `CPU_MAP` (R240; log 5). DESIGN CHOICE, unsafe (log 5): R240
gives the direction of 0x4000..0x4013 and 0x4015..0x4017 as "per device"; here both external devices are on the read
and the write list. -/
def AddressSpace.cpuPowerUp : AddressSpace where
  reads :=
    [ { device := 3, base := 0x8000, size := 0x8000 }, { device := 5, base := 0x4015, size := 3 },
      { device := 4, base := 0x4000, size := 0x14 }, { device := 1, base := 0x2000, size := 0x2000 },
      { device := 0, base := 0x0000, size := 0x2000 } ]
  writes :=
    [ { device := 5, base := 0x4015, size := 3 }, { device := 2, base := 0x4014, size := 1 },
      { device := 4, base := 0x4000, size := 0x14 }, { device := 1, base := 0x2000, size := 0x2000 },
      { device := 0, base := 0x0000, size := 0x2000 } ]
  openBus := 0
  draws := 0
  fault := none

/-- The PPU AddressSpace at power-up with the reference map `PPU_MAP` (R241; log 5). -/
def AddressSpace.ppuPowerUp : AddressSpace where
  reads := [ { device := 7, base := 0x2000, size := 0x1F00 }, { device := 6, base := 0x0000, size := 0x2000 } ]
  writes := [ { device := 7, base := 0x2000, size := 0x1F00 }, { device := 6, base := 0x0000, size := 0x2000 } ]
  openBus := 0
  draws := 0
  fault := none

/-- The machine after `power_cycle()` with the reference ports and nothing loaded (R160, R1132; log 1): the CPU is
about to run the reset sequence. -/
def State.reset : State where
  cpu := Cpu.powerUp
  cpuBus := AddressSpace.cpuPowerUp
  devices := referenceDevices
  irq := { sources := [] }
  video := { ppu := Ppu.powerUp, bus := AddressSpace.ppuPowerUp, nmi := { sources := [], edgePending := false } }
  sched := Sched.powerUp
  diagnostics := []

end Sys2Proof.Machine
end

