-- ==== Sys2Proof/Machine/Memory.lean ====
section
/-! DEFINITION. The sparse memories: reading and writing one cell, and their canonical form. -/

namespace Sys2Proof.Machine

/-- The value of cell `k`; an unlisted cell reads as 0 (`RAM_INIT`'s reference value, log 4). -/
def Cells.get {w : Nat} : Cells w → Nat → BitVec w
  | [], _ => 0
  | (j, v) :: rest, k => if k < j then 0 else if j = k then v else Cells.get rest k

/-- Puts `v` at `k` in front of the larger cells of `rest`; a 0 is not listed. -/
def Cells.put {w : Nat} (k : Nat) (v : BitVec w) (rest : Cells w) : Cells w :=
  if v = 0 then rest else (k, v) :: rest

/-- Writes one cell, keeping the canonical form. -/
def Cells.set {w : Nat} : Cells w → Nat → BitVec w → Cells w
  | [], k, v => Cells.put k v []
  | (j, u) :: rest, k, v =>
    if k < j then Cells.put k v ((j, u) :: rest)
    else if j = k then Cells.put k v rest
    else (j, u) :: Cells.set rest k v

/-- The canonical form from a lower bound on: indexes at least `lo` and strictly rising, no listed 0. -/
def Cells.wfFrom {w : Nat} : Nat → Cells w → Bool
  | _, [] => true
  | lo, (j, v) :: rest => decide (lo ≤ j) && decide (v ≠ 0) && Cells.wfFrom (j + 1) rest

/-- The canonical form of a memory: equal memories are equal lists. -/
def Memory.wf {w : Nat} (m : Cells w) : Bool := Cells.wfFrom 0 m

/-- Every memory of the machine is canonical: each device's cells and the framebuffer. -/
def State.memoryWf (s : State) : Bool :=
  s.devices.all (fun d => Memory.wf d.cells) && Memory.wf s.video.ppu.framebuffer

end Sys2Proof.Machine
end

