-- ==== Sys2Proof/Machine/Bus.lean ====
section
/-! DEFINITION. The bus multiplexer of one AddressSpace (R200 to R214): which port and device an address reaches,
and reads and writes of memory-like devices. Register devices of the CPU space are in Ops.lean. -/

namespace Sys2Proof.Machine

/-- The addresses a port covers (R202). -/
def Port.contains (p : Port) (addr : Nat) : Bool := p.base ≤ addr && addr < p.base + p.size

/-- "The highest-based port whose range contains addr" (R210). -/
def portAt : List Port → Nat → Option Port
  | [], _ => none
  | p :: ps, addr =>
    match portAt ps addr with
    | none => if p.contains addr then some p else none
    | some q => if p.contains addr && q.base < p.base then some p else some q

/-- Where an access lands. -/
inductive Target
  /-- No port, or a device that is not valid: open bus (R210, R211). -/
  | absent
  /-- The offset is past the device's size (R205). -/
  | pastDevice
  /-- Device number `id`, the device, and the rebased offset (R205). -/
  | hit (id : Nat) (dev : Device) (offset : Nat)
  deriving DecidableEq, Repr

/-- Port resolution in one direction (R205, R210, R211). -/
def resolve (ports : List Port) (devs : List Device) (addr : Nat) : Target :=
  match portAt ports addr with
  | none => .absent
  | some p =>
    match devs[p.device]? with
    | none => .absent
    | some d =>
      if d.valid then
        if addr - p.base < d.size then .hit p.device d (addr - p.base) else .pastDevice
      else .absent

/-- The backing cell of an offset: mirroring is done by the device (R205). -/
def Device.index (d : Device) (offset : Nat) : Nat := offset % d.mirror

/-- The byte a memory device holds at an offset (R206). -/
def Device.byteAt (d : Device) (offset : Nat) : Byte := d.cells.get (d.index offset)

/-- A memory device after a write at an offset (R206). -/
def Device.store (d : Device) (offset : Nat) (v : Byte) : Device := { d with cells := d.cells.set (d.index offset) v }

def AddressSpace.latch (b : AddressSpace) (v : Byte) : AddressSpace := { b with openBus := v }
def AddressSpace.raise (b : AddressSpace) (f : Fault) : AddressSpace := { b with fault := some f }
def AddressSpace.draw (b : AddressSpace) : AddressSpace := { b with draws := b.draws + 1 }

/-- What a read of a resolved target gives in one AddressSpace when no register device is reached (R210): the byte
and the space after it. The register devices answer nothing here (they are devices of the CPU space, handled by
`cpuRead`; log 12). -/
def AddressSpace.readTarget (sp : Space) (b : AddressSpace) : Target → Byte × AddressSpace
  | .absent => (b.openBus, b)
  | .pastDevice => (b.openBus, b.raise .offsetPastDevice)
  | .hit _ d off =>
    match d.kind with
    | .ram => (d.byteAt off, b.latch (d.byteAt off))
    | .rom => (d.byteAt off, b.latch (d.byteAt off))
    | .external => (Config.externalByte sp b.draws, (b.latch (Config.externalByte sp b.draws)).draw)
    | .ppuRegisters => (b.openBus, b)
    | .oamDma => (b.openBus, b)

/-- `read(addr)` of R210 in a space whose devices are memories or external. -/
def AddressSpace.read (sp : Space) (devs : List Device) (b : AddressSpace) (addr : Nat) : Byte × AddressSpace :=
  b.readTarget sp (resolve b.reads devs addr)

/-- The devices after a memory write to a resolved target (R211): only RAM stores (R206). -/
def storeTarget (devs : List Device) (v : Byte) : Target → List Device
  | .hit id d off => match d.kind with
    | .ram => devs.set id (d.store off v)
    | _ => devs
  | _ => devs

/-- The latch, and the Fault if any, after a write (R211: "regardless of hit/miss"; R205). -/
def AddressSpace.writeLatch (b : AddressSpace) (v : Byte) : Target → AddressSpace
  | .pastDevice => (b.latch v).raise .offsetPastDevice
  | _ => b.latch v

/-- `poke(addr)` of R212 for memory-like devices: no change of any state. DESIGN CHOICE, safe (log 20): a poke whose
offset is past its device answers as absent and raises no Fault, since R212 lets it change no state. -/
def AddressSpace.pokeTarget (sp : Space) (b : AddressSpace) : Target → Byte
  | .hit _ d off =>
    if d.pokeable then
      match d.kind with
      | .ram => d.byteAt off
      | .rom => d.byteAt off
      | .external => Config.externalByte sp b.draws
      | _ => b.openBus
    else b.openBus
  | _ => b.openBus

/-- The PPU address of an access, 14 bits (R213). -/
def ppuAddr (a : Nat) : Nat := a % 0x4000

/-- `PpuRead` (R213). -/
def ppuRead (devs : List Device) (vd : Video) (a : Nat) : Byte × Video :=
  ((vd.bus.read .ppu devs (ppuAddr a)).1, { vd with bus := (vd.bus.read .ppu devs (ppuAddr a)).2 })

/-- `PpuWrite` (R213): the devices and the video side after it. -/
def ppuWrite (devs : List Device) (vd : Video) (a : Nat) (v : Byte) : List Device × Video :=
  (storeTarget devs v (resolve vd.bus.writes devs (ppuAddr a)),
   { vd with bus := vd.bus.writeLatch v (resolve vd.bus.writes devs (ppuAddr a)) })

/-- Every port of a list names a device it fits in: what keeps R205's Fault from arising. -/
def portsFit (devs : List Device) (ports : List Port) : Bool :=
  ports.all fun p => match devs[p.device]? with
    | some d => decide (p.size ≤ d.size)
    | none => true

/-- No port of the machine can hand its device an offset past its size (R205). -/
def State.busFits (s : State) : Bool :=
  portsFit s.devices s.cpuBus.reads && portsFit s.devices s.cpuBus.writes
    && portsFit s.devices s.video.bus.reads && portsFit s.devices s.video.bus.writes

end Sys2Proof.Machine
end

