-- ==== Sys2Proof/Machine/Lines.lean ====
section
/-! DEFINITION. The interrupt lines (R121, R122, R1002, R1010, R1011). -/

namespace Sys2Proof.Machine

/-- Adds a source to a rising list; raising an asserted source changes nothing (R1002). -/
def insertSource (src : Nat) : List Nat → List Nat
  | [] => [src]
  | k :: ks => if src < k then src :: k :: ks else if src = k then k :: ks else k :: insertSource src ks

/-- Removes a source; releasing a released source changes nothing (R1002). -/
def removeSource (src : Nat) (l : List Nat) : List Nat := l.filter (· ≠ src)

/-- The level: the OR of the sources' assertions (R1010, R1011). -/
def lineLevel (sources : List Nat) : Bool := !sources.isEmpty

def IrqLine.raise (l : IrqLine) (src : Nat) : IrqLine := { l with sources := insertSource src l.sources }
def IrqLine.release (l : IrqLine) (src : Nat) : IrqLine := { l with sources := removeSource src l.sources }

/-- `is_asserted()` of the IRQ line: the level, changing nothing (R1010). -/
def IrqLine.isAsserted (l : IrqLine) : Bool := lineLevel l.sources

/-- Raising a source sets the edge latch exactly when the level goes from 0 to 1 (R1011). -/
def NmiLine.raise (l : NmiLine) (src : Nat) : NmiLine where
  sources := insertSource src l.sources
  edgePending := l.edgePending || !lineLevel l.sources

/-- A release never clears an edge once seen (R1011). -/
def NmiLine.release (l : NmiLine) (src : Nat) : NmiLine := { l with sources := removeSource src l.sources }

/-- `is_asserted()` of the NMI line: `edge_pending`, consumed by the read (R1011). -/
def NmiLine.isAsserted (l : NmiLine) : Bool × NmiLine := (l.edgePending, { l with edgePending := false })

end Sys2Proof.Machine
end

