-- ==== Sys2Proof/Machine/PpuRegisters.lean ====
section
/-! DEFINITION. The PPU register block (R1200 to R1219), the scroll arithmetic it shares with the engine (R1330,
R1331), palette addressing (R1218) and the NMI output (R1260). -/

namespace Sys2Proof.Machine

def Video.mapPpu (vd : Video) (f : Ppu → Ppu) : Video := { vd with ppu := f vd.ppu }
def Video.setNmi (vd : Video) (l : NmiLine) : Video := { vd with nmi := l }

/-! ## Fields of the registers -/

/-- `ctrl.inc32` (R130). -/
def Ppu.inc32 (p : Ppu) : Bool := p.ctrl.getLsbD 2
/-- The pattern table base of 8x8 sprites (R130 `spr_table`). -/
def Ppu.sprTable (p : Ppu) : Nat := if p.ctrl.getLsbD 3 then 0x1000 else 0
/-- The pattern table base of the background (R130 `bg_table`). -/
def Ppu.bgTable (p : Ppu) : Nat := if p.ctrl.getLsbD 4 then 0x1000 else 0
/-- `ctrl.spr_16` (R130). -/
def Ppu.spr16 (p : Ppu) : Bool := p.ctrl.getLsbD 5
/-- `ctrl.nmi_enable` (R130). -/
def Ppu.nmiEnable (p : Ppu) : Bool := p.ctrl.getLsbD 7
/-- `mask.grey` (R131). -/
def Ppu.grey (p : Ppu) : Bool := p.mask.getLsbD 0
/-- `mask.bg_left` (R131). -/
def Ppu.bgLeft (p : Ppu) : Bool := p.mask.getLsbD 1
/-- `mask.spr_left` (R131). -/
def Ppu.sprLeft (p : Ppu) : Bool := p.mask.getLsbD 2
/-- `mask.bg_on` (R131). -/
def Ppu.bgOn (p : Ppu) : Bool := p.mask.getLsbD 3
/-- `mask.spr_on` (R131). -/
def Ppu.sprOn (p : Ppu) : Bool := p.mask.getLsbD 4

/-- "Rendering is *enabled* when `mask.bg_on OR mask.spr_on`" (R131). -/
def Ppu.renderingEnabled (p : Ppu) : Bool := p.bgOn || p.sprOn

/-- A render or pre-render line (R1201, R1300). -/
def isRenderLine (l : Nat) : Bool := l ≤ 239 || l == 261

/-- *Rendering active* (R1201). -/
def Ppu.renderingActive (p : Ppu) : Bool := p.renderingEnabled && isRenderLine p.scanline

/-- An access now *lands on* dot `(l, d)` (R16). -/
def Ppu.landsOn (p : Ppu) (l d : Nat) : Bool := p.scanline == l && p.dot == d

/-- Fine Y, `v[14:12]` (R134). -/
def fineY (v : BitVec 15) : BitVec 3 := v.extractLsb' 12 3
/-- Coarse Y, `v[9:5]` (R134). -/
def coarseY (v : BitVec 15) : BitVec 5 := v.extractLsb' 5 5
/-- Coarse X, `v[4:0]` (R134). -/
def coarseX (v : BitVec 15) : BitVec 5 := v.extractLsb' 0 5

/-- Copies the bits of `m` from `src` into `dst`. -/
def copyBits (m src dst : BitVec 15) : BitVec 15 := (dst &&& ~~~m) ||| (src &&& m)

/-! ## Scroll arithmetic -/

/-- `coarse_x_increment()` (R1330). -/
def coarseXIncrement (v : BitVec 15) : BitVec 15 :=
  if coarseX v = 31 then (v &&& ~~~0x001F) ^^^ 0x0400 else v + 1

/-- `y_increment()` (R1331). -/
def yIncrement (v : BitVec 15) : BitVec 15 :=
  if fineY v ≠ 7 then v + 0x1000
  else if coarseY v = 29 then (v &&& ~~~0x73E0) ^^^ 0x0800
  else if coarseY v = 31 then v &&& ~~~0x73E0
  else (v &&& ~~~0x7000) + 0x0020

/-- The PPU address a PPUDATA access uses: `v AND 0x3FFF` (R1217). -/
def Ppu.dataAddr (p : Ppu) : Nat := p.v.toNat % 0x4000

/-- `increment_v()` (R1217). -/
def Ppu.incrementV (p : Ppu) : Ppu :=
  { p with v := if p.renderingActive then yIncrement (coarseXIncrement p.v)
                else p.v + (if p.inc32 then 32 else 1) }

/-! ## Palette -/

/-- `pal_index(a)` (R1218). -/
def palIndex (a : Nat) : BitVec 5 :=
  if BitVec.ofNat 5 a &&& 0x13 = 0x10 then BitVec.ofNat 5 a &&& 0x0F else BitVec.ofNat 5 a

/-- The palette entry at a PPU address or palette index (R142, R1218). -/
def Ppu.paletteAt (p : Ppu) (a : Nat) : BitVec 6 := p.palette[(palIndex a).toNat]'(palIndex a).isLt

/-- Writes the palette entry at a PPU address; the two top bits are not stored (R142, R1217). -/
def Ppu.setPalette (p : Ppu) (a : Nat) (v : Byte) : Ppu :=
  { p with palette := p.palette.set (palIndex a).toNat (v.setWidth 6) (palIndex a).isLt }

/-! ## The NMI output -/

/-- The target level of `update_nmi()`: `vbl AND nmi_enable AND NOT hold` (R1260). -/
def Ppu.nmiTarget (p : Ppu) : Bool := p.vbl && p.nmiEnable && !(p.landsOn 241 2 || p.landsOn 241 3)

/-- `update_nmi()` (R1260). -/
def updateNmi (vd : Video) : Video :=
  if vd.ppu.nmiTarget && !vd.ppu.nmiOut then
    (vd.mapPpu fun p => { p with nmiOut := true }).setNmi (vd.nmi.raise Config.ppuNmiSource)
  else if !vd.ppu.nmiTarget && vd.ppu.nmiOut then
    (vd.mapPpu fun p => { p with nmiOut := false }).setNmi (vd.nmi.release Config.ppuNmiSource)
  else vd

/-! ## OAM -/

/-- `oam[i]`, with `i` modulo 256. -/
def Ppu.oamAt (p : Ppu) (i : Byte) : Byte := p.oam[i.toNat]'i.isLt

/-- The byte an OAMDATA write of `v` stores (R1214). -/
def Ppu.oamStored (p : Ppu) (v : Byte) : Byte :=
  if p.renderingActive then 0xFF
  else if p.oamAddr &&& 3 = 2 then v &&& 0xE3
  else v

/-- OAMDATA write (R1214). -/
def Ppu.writeOamData (p : Ppu) (v : Byte) : Ppu :=
  { p with
    oam := p.oam.set p.oamAddr.toNat (p.oamStored v) p.oamAddr.isLt
    oamAddr := p.oamAddr + 1 }

/-! ## Register reads -/

/-- The byte PPUSTATUS reads as (R1212). -/
def Ppu.statusByte (p : Ppu) : Byte :=
  BitVec.ofBool p.vbl ++ BitVec.ofBool p.spr0Hit ++ BitVec.ofBool p.sprOverflow ++ p.ioLatch.extractLsb' 0 5

/-- The effects of a PPUSTATUS read on the PPU, before `update_nmi()` (R1212). -/
def Ppu.readStatusEffect (p : Ppu) : Ppu :=
  { p with
    vblSuppress := p.vblSuppress || p.landsOn 241 1
    vbl := false
    w := false }

/-- PPUSTATUS read (R1212). -/
def readStatus (vd : Video) : Byte × Video := (vd.ppu.statusByte, updateNmi (vd.mapPpu Ppu.readStatusEffect))

/-- PPUDATA read (R1217). -/
def readData (devs : List Device) (vd : Video) : Byte × Video :=
  if vd.ppu.dataAddr < 0x3F00 then
    let r := ppuRead devs vd vd.ppu.dataAddr
    (vd.ppu.readBuffer, r.2.mapPpu fun p => ({ p with readBuffer := r.1 } : Ppu).incrementV)
  else
    let r := ppuRead devs vd (vd.ppu.dataAddr - 0x1000)
    ((vd.ppu.ioLatch &&& 0xC0) ||| (vd.ppu.paletteAt vd.ppu.dataAddr).setWidth 8,
     r.2.mapPpu fun p => ({ p with readBuffer := r.1 } : Ppu).incrementV)

/-- A read of register `r` before `io_latch` is updated (R1200, R1212, R1215, R1217). -/
def readRegisterRaw (r : Nat) (devs : List Device) (vd : Video) : Byte × Video :=
  match r with
  | 2 => readStatus vd
  | 4 => (vd.ppu.oamAt vd.ppu.oamAddr, vd)
  | 7 => readData devs vd
  | _ => (vd.ppu.ioLatch, vd)

/-- A CPU read of PPU register `r` (0 to 7); "every CPU read of a PPU register sets `io_latch` to the value
returned" (R1219). -/
def ppuRegisterRead (r : Nat) (devs : List Device) (vd : Video) : Byte × Video :=
  let q := readRegisterRaw r devs vd
  (q.1, q.2.mapPpu fun p => { p with ioLatch := q.1 })

/-! ## Register writes -/

/-- PPUCTRL write, before `update_nmi()` (R1210). -/
def Ppu.writeCtrl (p : Ppu) (v : Byte) : Ppu :=
  { p with
    ctrl := v
    t := copyBits 0x0C00 ((v.setWidth 15) <<< 10) p.t }

/-- PPUMASK write: ignored when it lands on 261/338 (R1211). -/
def Ppu.writeMask (p : Ppu) (v : Byte) : Ppu := if p.landsOn 261 338 then p else { p with mask := v }

/-- PPUSCROLL write (R1216). -/
def Ppu.writeScroll (p : Ppu) (v : Byte) : Ppu :=
  if p.w then
    { p with
      t := copyBits 0x7000 ((v.setWidth 15) <<< 12) (copyBits 0x03E0 ((v.setWidth 15 >>> 3) <<< 5) p.t)
      w := false }
  else
    { p with
      t := copyBits 0x001F (v.setWidth 15 >>> 3) p.t
      x := v.extractLsb' 0 3
      w := true }

/-- PPUADDR write (R1216). -/
def Ppu.writeAddr (p : Ppu) (v : Byte) : Ppu :=
  if p.w then
    { p with
      t := copyBits 0x00FF (v.setWidth 15) p.t
      v := copyBits 0x00FF (v.setWidth 15) p.t
      w := false }
  else
    { p with
      t := copyBits 0x7F00 (((v &&& 0x3F).setWidth 15) <<< 8) p.t
      w := true }

/-- PPUDATA write (R1217). -/
def writeData (v : Byte) (devs : List Device) (vd : Video) : List Device × Video :=
  if vd.ppu.dataAddr < 0x3F00 then
    let r := ppuWrite devs vd vd.ppu.dataAddr v
    (r.1, r.2.mapPpu Ppu.incrementV)
  else (devs, vd.mapPpu fun p => (p.setPalette p.dataAddr v).incrementV)

/-- A write of register `r` before `io_latch` is updated (R1200, R1210 to R1217); a write to PPUSTATUS changes
nothing else. -/
def writeRegisterRaw (r : Nat) (v : Byte) (devs : List Device) (vd : Video) : List Device × Video :=
  match r with
  | 0 => (devs, updateNmi (vd.mapPpu (·.writeCtrl v)))
  | 1 => (devs, vd.mapPpu (·.writeMask v))
  | 3 => (devs, vd.mapPpu fun p => { p with oamAddr := v })
  | 4 => (devs, vd.mapPpu (·.writeOamData v))
  | 5 => (devs, vd.mapPpu (·.writeScroll v))
  | 6 => (devs, vd.mapPpu (·.writeAddr v))
  | 7 => writeData v devs vd
  | _ => (devs, vd)

/-- A CPU write of PPU register `r` (0 to 7); "every CPU write to any PPU register sets `io_latch <- val`" (R1219). -/
def ppuRegisterWrite (r : Nat) (v : Byte) (devs : List Device) (vd : Video) : List Device × Video :=
  let q := writeRegisterRaw r v devs vd
  (q.1, q.2.mapPpu fun p => { p with ioLatch := v })

end Sys2Proof.Machine
end

