-- ==== Sys2Proof/Machine/PpuEngine.lean ====
section
/-! DEFINITION. The PPU scanline and dot engine (file 63): one dot, as a function of the devices of the PPU space
(only read) and of the video side. -/

namespace Sys2Proof.Machine

/-! ## Background pipeline -/

/-- The nametable address of a fetch: `0x2000 OR (v AND 0x0FFF)` (R1320). -/
def ntAddr (v : BitVec 15) : Nat := (0x2000 ||| (v &&& 0x0FFF)).toNat

/-- The attribute address of a fetch (R1320). -/
def atAddr (v : BitVec 15) : Nat := (0x23C0 ||| (v &&& 0x0C00) ||| ((v >>> 4) &&& 0x38) ||| ((v >>> 2) &&& 0x07)).toNat

/-- The attribute shift: bit 1 of coarse Y, bit 1 of coarse X (R1320). -/
def atShift (v : BitVec 15) : Nat := (((v >>> 4) &&& 4) ||| (v &&& 2)).toNat

/-- The pattern address of the low plane of the current tile row (R1320). -/
def Ppu.bgPatternAddr (p : Ppu) : Nat := p.bgTable + p.ntByte.toNat * 16 + (fineY p.v).toNat

/-- A discarded nametable read (R1320, R1422). -/
def fetchUnused (devs : List Device) (vd : Video) : Video := (ppuRead devs vd (ntAddr vd.ppu.v)).2

/-- The fetch of one phase of an 8-dot tile (R1320). -/
def tileFetch (phase : Nat) (devs : List Device) (vd : Video) : Video :=
  match phase with
  | 1 => let r := ppuRead devs vd (ntAddr vd.ppu.v); r.2.mapPpu fun p => { p with ntByte := r.1 }
  | 3 =>
    let r := ppuRead devs vd (atAddr vd.ppu.v)
    r.2.mapPpu fun p => { p with atBits := (r.1 >>> atShift p.v).setWidth 2 }
  | 5 => let r := ppuRead devs vd vd.ppu.bgPatternAddr; r.2.mapPpu fun p => { p with ptLo := r.1 }
  | 7 => let r := ppuRead devs vd (vd.ppu.bgPatternAddr + 8); r.2.mapPpu fun p => { p with ptHi := r.1 }
  | _ => vd

/-- Dots of the 34 tile fetches of a line (R1302, R1320). -/
def isTileDot (d : Nat) : Bool := (1 ≤ d && d ≤ 256) || (321 ≤ d && d ≤ 336)

/-- `bg_fetch(l, d)` (R1320). -/
def bgFetch (d : Nat) (devs : List Device) (vd : Video) : Video :=
  if isTileDot d then tileFetch ((d - 1) % 8) devs vd
  else if d == 338 || d == 340 then fetchUnused devs vd
  else vd

/-- The shift of R1321. -/
def Ppu.bgShift (p : Ppu) : Ppu :=
  { p with
    bgLo := p.bgLo <<< 1
    bgHi := p.bgHi <<< 1
    atLo := p.atLo <<< 1
    atHi := p.atHi <<< 1 }

/-- Replaces the low half of a 16-bit shifter (R1321). -/
def reloadLow (r : BitVec 16) (b : Byte) : BitVec 16 := (r &&& 0xFF00) ||| b.setWidth 16

/-- Eight copies of one attribute bit (R1321). -/
def attrByte (bit : Bool) : Byte := if bit then 0xFF else 0x00

/-- The reload of R1321. -/
def Ppu.bgReload (p : Ppu) : Ppu :=
  { p with
    bgLo := reloadLow p.bgLo p.ptLo
    bgHi := reloadLow p.bgHi p.ptHi
    atLo := reloadLow p.atLo (attrByte (p.atBits.getLsbD 0))
    atHi := reloadLow p.atHi (attrByte (p.atBits.getLsbD 1)) }

/-- Dots of the shift (R1321). -/
def isShiftDot (d : Nat) : Bool := (2 ≤ d && d ≤ 257) || (322 ≤ d && d ≤ 337)

/-- Dots of the reload: 9, 17, ..., 257 and 329, 337 (R1321). -/
def isReloadDot (d : Nat) : Bool := (9 ≤ d && d ≤ 257 && d % 8 == 1) || d == 329 || d == 337

/-- `bg_shift_and_reload(l, d)` (R1321). -/
def Ppu.bgShiftAndReload (d : Nat) (p : Ppu) : Ppu :=
  let q := if isShiftDot d then p.bgShift else p
  if isReloadDot d then q.bgReload else q

/-! ## Scroll operations -/

/-- Dots of the coarse X increment: 8, 16, ..., 256, 328, 336 (R1330). -/
def isCoarseXDot (d : Nat) : Bool := (8 ≤ d && d ≤ 256 && d % 8 == 0) || d == 328 || d == 336

/-- `v` after `scroll_ops(l, d)` (R1330 to R1333). -/
def scrolledV (l d : Nat) (t v : BitVec 15) : BitVec 15 :=
  if d == 256 then yIncrement (coarseXIncrement v)
  else if isCoarseXDot d then coarseXIncrement v
  else if d == 257 then copyBits 0x041F t v
  else if l == 261 && 280 ≤ d && d ≤ 304 then copyBits 0x7BE0 t v
  else v

/-- `scroll_ops(l, d)` (R1330 to R1333). -/
def Ppu.scrollOps (l d : Nat) (p : Ppu) : Ppu := { p with v := scrolledV l d p.t p.v }

/-! ## Sprite evaluation -/

/-- `oam[i]` for an index computed by the evaluation. -/
def Ppu.oamByte (p : Ppu) (i : Nat) : Byte := p.oam[i]?.getD 0

/-- `oam2[i]`. -/
def Ppu.oam2Byte (p : Ppu) (i : Nat) : Byte := p.oam2[i]?.getD 0

/-- `oam2[i] <- v`. -/
def Ppu.setOam2 (p : Ppu) (i : Nat) (v : Byte) : Ppu := { p with oam2 := p.oam2.setIfInBounds i v }

/-- The sprite height `h` (R1420). -/
def Ppu.sprHeight (p : Ppu) : Nat := if p.spr16 then 16 else 8

/-- `in_range(y)` on integers: `0 <= l - y < h` (R1420). -/
def Ppu.inRange (p : Ppu) (l : Nat) (y : Byte) : Bool := y.toNat ≤ l && l < y.toNat + p.sprHeight

/-- `next_entry()` (R1420). -/
def Ppu.nextEntry (p : Ppu) : Ppu :=
  if p.evalN + 1 == 64 then { p with evalN := p.evalN + 1, evalPhase := .done }
  else if p.evalFound == 8 then { p with evalN := p.evalN + 1, evalPhase := .overflow, evalM := 0 }
  else { p with evalN := p.evalN + 1, evalPhase := .scan }

/-- The `Scan` case of `eval_step()` (R1420). -/
def Ppu.evalScan (l : Nat) (p : Ppu) : Ppu :=
  let y := p.oamByte (4 * p.evalN)
  let q := p.setOam2 (4 * p.evalFound) y
  if p.inRange l y then { q with spr0Next := q.spr0Next || q.evalN == 0, evalPhase := .copy 1 }
  else q.nextEntry

/-- The `Copy(k)` case of `eval_step()` (R1420). -/
def Ppu.evalCopy (k : Nat) (p : Ppu) : Ppu :=
  let q := p.setOam2 (4 * p.evalFound + k) (p.oamByte (4 * p.evalN + k))
  if k < 3 then { q with evalPhase := .copy (k + 1) }
  else ({ q with evalFound := q.evalFound + 1 } : Ppu).nextEntry

/-- The `Overflow` case of `eval_step()`, with the hardware's buggy cursor (R1421). -/
def Ppu.evalOverflow (l : Nat) (p : Ppu) : Ppu :=
  if p.inRange l (p.oamByte (4 * p.evalN + p.evalM)) then { p with sprOverflow := true, evalPhase := .done }
  else
    { p with
      evalN := p.evalN + 1
      evalM := (p.evalM + 1) % 4
      evalPhase := if p.evalN + 1 == 64 then .done else .overflow }

/-- `eval_step()` (R1420, R1421). -/
def Ppu.evalStep (l : Nat) (p : Ppu) : Ppu :=
  match p.evalPhase with
  | .scan => p.evalScan l
  | .copy k => p.evalCopy k
  | .overflow => p.evalOverflow l
  | .done => p

/-- Sprite evaluation on lines 0 to 239 (R1420), and the latch of line 261 (R1423). -/
def Ppu.spriteEval (l d : Nat) (p : Ppu) : Ppu :=
  if l ≤ 239 then
    if d == 1 then { p with evalN := 0, evalM := 0, evalFound := 0, evalPhase := .scan, spr0Next := false }
    else if 2 ≤ d && d ≤ 64 && d % 2 == 0 then p.setOam2 (d / 2 - 1) 0xFF
    else if 66 ≤ d && d ≤ 256 && d % 2 == 0 then p.evalStep l
    else if d == 257 then { p with sprCountLine := p.evalFound, spr0Line := p.spr0Next }
    else p
  else if l == 261 && d == 257 then { p with sprCountLine := 0, spr0Line := false }
  else p

/-! ## Sprite fetches -/

/-- `spr_addr(i)` on integers (R1422; log 22 for rows outside the sprite). -/
def Ppu.sprAddr (l : Nat) (i : Nat) (p : Ppu) : Int :=
  if p.sprCountLine ≤ i then
    if p.spr16 then 0x1FF0 else (p.sprTable : Int) + 0x0FF0
  else
    let tile := p.oam2Byte (4 * i + 1)
    let attr := p.oam2Byte (4 * i + 2)
    let row : Int := (l : Int) - ((p.oam2Byte (4 * i)).toNat : Int)
    if p.spr16 then
      let r := if attr.getLsbD 7 then 15 - row else row
      ((tile &&& 1).toNat : Int) * 0x1000 + (((tile &&& 0xFE).toNat : Int) + (if 8 ≤ r then 1 else 0)) * 16 + r % 8
    else
      let r := if attr.getLsbD 7 then 7 - row else row
      (p.sprTable : Int) + (tile.toNat : Int) * 16 + r

/-- The 14-bit bus address of an integer address (R213). -/
def intAddr (a : Int) : Nat := (a % 0x4000).toNat

/-- A pattern byte as a sprite unit holds it: reversed when flipped horizontally, transparent in an empty slot
(R1422). -/
def Ppu.unitPattern (p : Ppu) (i : Nat) (b : Byte) : Byte :=
  if p.sprCountLine ≤ i then 0
  else if (p.oam2Byte (4 * i + 2)).getLsbD 6 then b.reverse
  else b

def Ppu.unitAt (p : Ppu) (i : Nat) : SpriteUnit := p.units[i]?.getD { lo := 0, hi := 0, attr := 0, x := 0 }

def Ppu.setUnit (p : Ppu) (i : Nat) (u : SpriteUnit) : Ppu := { p with units := p.units.setIfInBounds i u }

/-- The fetch of unit `i` at offset `o` of its eight dots (R1422). DESIGN CHOICE, unsafe (log 34): when rendering was off
at offset 5 and is on at offset 7, `lo` is the last byte that was fetched at an offset 5. -/
def spriteFetch (l i o : Nat) (devs : List Device) (vd : Video) : Video :=
  match o with
  | 1 => fetchUnused devs vd
  | 3 => fetchUnused devs vd
  | 5 =>
    let r := ppuRead devs vd (intAddr (vd.ppu.sprAddr l i))
    r.2.mapPpu fun p => { p with sprFetchLo := r.1 }
  | 7 =>
    let r := ppuRead devs vd (intAddr (vd.ppu.sprAddr l i + 8))
    r.2.mapPpu fun p => p.setUnit i
      { lo := p.unitPattern i p.sprFetchLo
        hi := p.unitPattern i r.1
        attr := p.oam2Byte (4 * i + 2)
        x := p.oam2Byte (4 * i + 3) }
  | _ => vd

/-- `sprite_ops(l, d)` (R1420 to R1423). -/
def spriteOps (l d : Nat) (devs : List Device) (vd : Video) : Video :=
  let vd1 := vd.mapPpu (Ppu.spriteEval l d)
  if 257 ≤ d && d ≤ 320 then
    spriteFetch l ((d - 257) / 8) ((d - 257) % 8) devs (vd1.mapPpu fun p => { p with oamAddr := 0 })
  else vd1

/-! ## Compositing -/

/-- The two pattern bits of a sprite unit at column `X`, 0 when the unit does not cover it (R1430, R1440). -/
def SpriteUnit.pixel (u : SpriteUnit) (col : Nat) : BitVec 2 :=
  if u.x.toNat ≤ col && col ≤ u.x.toNat + 7 then
    BitVec.ofBool (u.hi.getLsbD (7 - (col - u.x.toNat))) ++ BitVec.ofBool (u.lo.getLsbD (7 - (col - u.x.toNat)))
  else 0

/-- The background pixel and palette of column `X`: pattern and attribute bits, 0 when clipped or off (R1440). -/
def Ppu.bgPixel (p : Ppu) (col : Nat) : BitVec 2 × BitVec 2 :=
  if p.bgOn && (8 ≤ col || p.bgLeft) then
    (BitVec.ofBool (p.bgHi.getLsbD (15 - p.x.toNat)) ++ BitVec.ofBool (p.bgLo.getLsbD (15 - p.x.toNat)),
     BitVec.ofBool (p.atHi.getLsbD (15 - p.x.toNat)) ++ BitVec.ofBool (p.atLo.getLsbD (15 - p.x.toNat)))
  else (0, 0)

/-- The first non-transparent sprite at column `X`: its pattern bits and attributes (R1440). -/
def Ppu.sprPixel (p : Ppu) (col : Nat) : Option (BitVec 2 × Byte) :=
  if p.sprOn && (8 ≤ col || p.sprLeft) then
    (List.range p.sprCountLine).findSome? fun i =>
      if (p.unitAt i).pixel col = 0 then none else some ((p.unitAt i).pixel col, (p.unitAt i).attr)
  else none

/-- The condition of `sprite_zero_hit` (R1430). -/
def Ppu.spriteZeroHit (p : Ppu) (col : Nat) (bgp : BitVec 2) : Bool :=
  p.spr0Line && 0 < p.sprCountLine && p.bgOn && p.sprOn && col != 255 && (8 ≤ col || p.sprLeft)
    && (p.unitAt 0).pixel col != 0 && bgp != 0

/-- The palette index of a background pixel: `4 * bga + bgp` (R1440). -/
def bgIndex (bg : BitVec 2 × BitVec 2) : Nat := 4 * bg.2.toNat + bg.1.toNat

/-- The palette index of a sprite pixel: `0x10 + 4 * spa[1:0] + spp` (R1440). -/
def sprIndex (sp : BitVec 2 × Byte) : Nat := 0x10 + 4 * (sp.2 &&& 3).toNat + sp.1.toNat

/-- The priority rule of R1440. -/
def pixelIndex (bg : BitVec 2 × BitVec 2) (sp : Option (BitVec 2 × Byte)) : Nat :=
  match sp with
  | none => if bg.1 = 0 then 0 else bgIndex bg
  | some q => if bg.1 = 0 then sprIndex q else if q.2.getLsbD 5 then bgIndex bg else sprIndex q

/-- `grey(c)` (R1441). -/
def Ppu.greyed (p : Ppu) (c : BitVec 6) : BitVec 6 := if p.grey then c &&& 0x30 else c

/-- `backdrop()` (R1442). -/
def Ppu.backdrop (p : Ppu) : BitVec 6 := p.greyed (p.paletteAt 0)

/-- Writes one pixel of the framebuffer (R147). -/
def Ppu.setPixel (p : Ppu) (l col : Nat) (c : BitVec 6) : Ppu :=
  { p with framebuffer := p.framebuffer.set (256 * l + col) c }

/-- `output_pixel(l, X, en)` (R1440, R1430, R1442). -/
def Ppu.outputPixel (l col : Nat) (en : Bool) (p : Ppu) : Ppu :=
  if en then
    ({ p with spr0Hit := p.spr0Hit || p.spriteZeroHit col (p.bgPixel col).1 } : Ppu).setPixel l col
      (p.greyed (p.paletteAt (pixelIndex (p.bgPixel col) (p.sprPixel col))))
  else p.setPixel l col p.backdrop

/-! ## Flags, position and the dot -/

/-- `flag_ops(l, d)` (R1400, R1401). -/
def Ppu.flagOps (l d : Nat) (p : Ppu) : Ppu :=
  if l == 241 && d == 1 then { p with vbl := p.vbl || !p.vblSuppress, vblSuppress := false }
  else if l == 261 && d == 1 then { p with vbl := false, spr0Hit := false, sprOverflow := false }
  else p

/-- `advance_position(l, d, en)` (R1310). -/
def Ppu.advancePosition (l d : Nat) (en : Bool) (p : Ppu) : Ppu :=
  if l == 261 && d == 339 && p.oddFrame && en then { p with scanline := 0, dot := 0, oddFrame := false }
  else if d == 340 then
    if l == 261 then { p with scanline := 0, dot := 0, oddFrame := !p.oddFrame }
    else { p with scanline := l + 1, dot := 0 }
  else { p with dot := d + 1 }

/-- The parts of a dot that run only with rendering enabled on a render line, after the pixel (R1300). -/
def renderFetches (l d : Nat) (devs : List Device) (vd : Video) : Video :=
  spriteOps l d devs ((bgFetch d devs vd).mapPpu (Ppu.scrollOps l d))

/-- The pixel stage of a dot (R1300). -/
def pixelStage (l d : Nat) (en : Bool) (vd : Video) : Video :=
  if l ≤ 239 && 1 ≤ d && d ≤ 256 then vd.mapPpu (Ppu.outputPixel l (d - 1) en) else vd

/-- One dot at position `(l, d)` with rendering enabled or not (R1300). -/
def dotAt (l d : Nat) (en : Bool) (devs : List Device) (vd : Video) : Video :=
  let vd1 := if isRenderLine l && en then vd.mapPpu (Ppu.bgShiftAndReload d) else vd
  let vd2 := pixelStage l d en vd1
  let vd3 := if isRenderLine l && en then renderFetches l d devs vd2 else vd2
  updateNmi (vd3.mapPpu fun p => (p.flagOps l d).advancePosition l d en)

/-- `ppu_dot()` (R1300): the PPU's activation. -/
def ppuDot (devs : List Device) (vd : Video) : Video :=
  dotAt vd.ppu.scanline vd.ppu.dot vd.ppu.renderingEnabled devs vd

end Sys2Proof.Machine
end

