-- ==== Sys2Proof/Machine/Clock.lean ====
section
/-! DEFINITION. The clock scheduler (R1100 to R1120): master ticks, divided receivers, skipped activations, and the
waiting of the CPU for its next activation. -/

namespace Sys2Proof.Machine

/-- One master tick delivered to a receiver: whether it is activated (R1101). -/
def Receiver.tick (r : Receiver) : Receiver × Bool :=
  if r.countdown ≤ 1 then ({ r with countdown := r.divisor }, true)
  else ({ r with countdown := r.countdown - 1 }, false)

/-- An activation: whether the receiver does its work, or spends one of its skips (R1120). -/
def Receiver.activate (r : Receiver) : Receiver × Bool :=
  if r.skip = 0 then (r, true) else ({ r with skip := r.skip - 1 }, false)

/-- `request_skip(r, n)` (R1120). -/
def Receiver.requestSkip (r : Receiver) (n : Nat) : Receiver := { r with skip := r.skip + n }

/-- One master tick at one receiver: the receiver, whether it was activated, and whether it does its work. -/
def Receiver.deliver (r : Receiver) : Receiver × Bool × Bool :=
  if r.tick.2 then (r.tick.1.activate.1, true, r.tick.1.activate.2) else (r.tick.1, false, false)

/-- The scheduler after one master tick, and whether the PPU and the CPU do their work in it; `cpu_cycles` counts
skipped activations too (R1110, R1120). -/
def Sched.tick (c : Sched) : Sched × Bool × Bool :=
  ({ masterTick := c.masterTick + 1
     ppu := c.ppu.deliver.1
     cpu := c.cpu.deliver.1
     cpuCycles := if c.cpu.deliver.2.1 then c.cpuCycles + 1 else c.cpuCycles },
   c.ppu.deliver.2.2, c.cpu.deliver.2.2)

/-- One master tick up to the CPU's work: the PPU's dot runs first (R1110). The flag says whether the CPU has a
cycle to perform in this tick. -/
def State.tickBeforeCpu (s : State) : State × Bool :=
  ((if s.sched.tick.2.1 then s.setVideo (ppuDot s.devices s.video) else s).setSched s.sched.tick.1, s.sched.tick.2.2)

/-- Master ticks until the CPU has a cycle to perform, at most `n`. -/
def awaitTicks : Nat → State → State
  | 0, s => s
  | n + 1, s => if s.tickBeforeCpu.2 then s.tickBeforeCpu.1 else awaitTicks n s.tickBeforeCpu.1

/-- The master ticks until a receiver's next activation that is not skipped (R1101, R1120). -/
def Receiver.ticksToWork (r : Receiver) : Nat := max r.countdown 1 + r.skip * r.divisor

/-- The machine at the moment of the CPU's next cycle, before its bus access: the master ticks up to it have been
delivered and the PPU has run its dots, through the CPU's skipped activations if any (R1110, R1120). -/
def State.awaitCpu (s : State) : State := awaitTicks s.sched.cpu.ticksToWork s

end Sys2Proof.Machine
end

