-- ==== Sys2Proof/Machine/Flags.lean ====
section
/-! DEFINITION. The status byte (R104, R105) and every flag computation of files 42 and 44. -/

namespace Sys2Proof.Machine

/-- A flag as a bit. -/
def bitOf (b : Bool) : BitVec 1 := BitVec.ofBool b

/-- A flag as 0 or 1. -/
def flagNat (b : Bool) : Nat := if b then 1 else 0

/-- A status byte with the given bits 5 and 4 (R104). -/
def Flags.byte (p : Flags) (bit5 bit4 : Bool) : Byte :=
  bitOf p.n ++ bitOf p.v ++ bitOf bit5 ++ bitOf bit4 ++ bitOf p.d ++ bitOf p.i ++ bitOf p.z ++ bitOf p.c

/-- The byte PHP and BRK push: `P | 0x30` (R105). -/
def Flags.pushedBySoftware (p : Flags) : Byte := p.byte true true

/-- The byte an IRQ or NMI sequence pushes: `(P & 0xCF) | 0x20` (R105). -/
def Flags.pushedByHardware (p : Flags) : Byte := p.byte true false

/-- The flags PLP and RTI load; bits 4 and 5 are ignored (R105). -/
def Flags.ofByte (b : Byte) : Flags where
  c := b.getLsbD 0
  z := b.getLsbD 1
  i := b.getLsbD 2
  d := b.getLsbD 3
  v := b.getLsbD 6
  n := b.getLsbD 7

/-- `N(r)` (R11). -/
def negative (r : Byte) : Bool := r.msb

/-- `Z(r)` (R11). -/
def isZero (r : Byte) : Bool := r == 0

/-- N and Z from a result. -/
def Flags.setNZ (p : Flags) (r : Byte) : Flags := { p with n := negative r, z := isZero r }

/-- C, N and Z from a carry and a result. -/
def Flags.setCNZ (p : Flags) (c : Bool) (r : Byte) : Flags := { p with c := c, n := negative r, z := isZero r }

/-- What an addition or subtraction gives: the result and its four flags. -/
structure Sum where
  r : Byte
  c : Bool
  v : Bool
  n : Bool
  z : Bool
  deriving DecidableEq, Repr

/-- The four flags of an addition or subtraction written to P. -/
def Flags.setSum (p : Flags) (q : Sum) : Flags := { p with c := q.c, v := q.v, n := q.n, z := q.z }

/-- The signed overflow of `r` as the sum of `a` and `m`: "both operands same sign, result different" (R600). -/
def overflow (a m r : Byte) : Bool := a.msb == m.msb && a.msb != r.msb

/-- The binary add function (R600). -/
def binAdd (a m : Byte) (c : Bool) : Sum :=
  let s := a.toNat + m.toNat + flagNat c
  let r := BitVec.ofNat 8 s
  { r := r, c := decide (0xFF < s), v := overflow a m r, n := negative r, z := isZero r }

/-- The binary subtract function (R604). -/
def binSub (a m : Byte) (c : Bool) : Sum := binAdd a (m ^^^ 0xFF) c

/-- The low nibble of a byte as a number. -/
def lowDigit (b : Byte) : Nat := b.toNat % 16

/-- The high nibble of a byte as a number. -/
def highDigit (b : Byte) : Nat := b.toNat / 16

/-- The low digit sum of `dec_add`, after its correction (R603). -/
def decAddLow (a m : Byte) (c : Bool) : Nat :=
  let lo := lowDigit a + lowDigit m + flagNat c
  if 9 < lo then lo + 6 else lo

/-- The high digit sum of `dec_add`, before its correction (R603). -/
def decAddHigh (a m : Byte) (c : Bool) : Nat :=
  highDigit a + highDigit m + (if 0x0F < decAddLow a m c then 1 else 0)

/-- The decimal add function (R603), used only when `DECIMAL_PRESENT`. -/
def decAdd (a m : Byte) (c : Bool) : Sum :=
  let hi := decAddHigh a m c
  let hi' := if 9 < hi then hi + 6 else hi
  { r := BitVec.ofNat 8 (hi' * 16 + decAddLow a m c % 16)
    c := decide (0x0F < hi')
    v := overflow a m (BitVec.ofNat 8 (hi * 16))
    n := hi / 8 % 2 == 1
    z := isZero (BitVec.ofNat 8 (a.toNat + m.toNat + flagNat c)) }

/-- The decimal subtract function (R606), on integers, used only when `DECIMAL_PRESENT`. -/
def decSub (a m : Byte) (c : Bool) : Byte :=
  let lo : Int := (lowDigit a : Int) - lowDigit m - (1 - flagNat c)
  let hi : Int := (highDigit a : Int) - highDigit m
  let lo' := if lo < 0 then lo - 6 else lo
  let hi1 := if lo < 0 then hi - 1 else hi
  let hi' := if hi1 < 0 then hi1 - 6 else hi1
  BitVec.ofNat 8 ((hi' % 16).toNat * 16 + (lo' % 16).toNat)

/-- ADC's computation, binary or decimal (R601). -/
def adcSum (decimal : Bool) (a m : Byte) (c : Bool) : Sum := if decimal then decAdd a m c else binAdd a m c

/-- SBC's computation: the flags are always those of the binary result (R605). -/
def sbcSum (decimal : Bool) (a m : Byte) (c : Bool) : Sum :=
  if decimal then { binSub a m c with r := decSub a m c } else binSub a m c

/-- The compare function (R611); V is not written. -/
def Flags.compare (p : Flags) (r m : Byte) : Flags :=
  { p with c := decide (m.toNat ≤ r.toNat), z := r == m, n := negative (r - m) }

end Sys2Proof.Machine
end

