-- ==== Sys2Proof/Machine/Ops.lean ====
section
/-! DEFINITION. The named operations over memory and registers: the CPU's bus reads and writes with their device
side effects (R13, R210, R211), OAM DMA (R1240), the stack, CPU cycles, the interrupt poll (R1020), and entering and
leaving the vector routine (R714, R715, R1030, R1040). -/

namespace Sys2Proof.Machine

/-- `zext_16(b)`, an address in page 0 (R11). -/
def zeroPage (b : Byte) : Word := b.setWidth 16

/-- The address of a stack access: `{0x01, S}` (R102). -/
def stackAddr (s : Byte) : Word := joinBytes 0x01 s

/-- `sext_16(b)` (R11). -/
def signExtend16 (b : Byte) : Word := b.signExtend 16

/-! ## The CPU bus -/

/-- The PPU register an offset in the register block selects: `offset AND 7` (R1200). -/
def registerOf (offset : Nat) : Nat := offset % 8

/-- A read of a resolved target in the CPU space, with the device's side effects (R210, R223). -/
def State.readTarget (s : State) (t : Target) : Byte × State :=
  match t with
  | .hit id d off =>
    match d.kind with
    | .ppuRegisters =>
      let q := ppuRegisterRead (registerOf off) s.devices s.video
      (q.1, (s.setVideo q.2).setCpuBus (s.cpuBus.latch q.1))
    | _ =>
      let q := s.cpuBus.readTarget .cpu (.hit id d off)
      (q.1, s.setCpuBus q.2)
  | t =>
    let q := s.cpuBus.readTarget .cpu t
    (q.1, s.setCpuBus q.2)

/-- `MemRead(addr, 1)` on the CPU AddressSpace (R13, R210): the byte, and the machine after its side effects. -/
def cpuRead (addr : Word) (s : State) : Byte × State :=
  s.readTarget (resolve s.cpuBus.reads s.devices addr.toNat)

/-- OAM DMA's copy, `n` bytes from offset `i` of a page (R1240): each byte is read on the CPU bus and written to
OAMDATA. -/
def dmaCopy (page : Byte) : Nat → Byte → State → State
  | 0, _, s => s
  | n + 1, i, s =>
    let r := cpuRead (joinBytes page i) s
    let q := ppuRegisterWrite 4 r.1 r.2.devices r.2.video
    dmaCopy page n (i + 1) (r.2.setVideo q.2)

/-- The activations a DMA makes the CPU skip: the parity of the first stalled activation's index (R1240). -/
def dmaStall (cpuCycles : Nat) : Nat := if cpuCycles % 2 = 0 then Config.dmaStallEven else Config.dmaStallOdd

/-- `request_skip(CPU, n)` (R1120). -/
def State.requestCpuSkip (s : State) (n : Nat) : State :=
  s.setSched { s.sched with cpu := s.sched.cpu.requestSkip n }

/-- The effect of an OAMDMA write: the copy, then the skip request (R1240). -/
def oamDma (page : Byte) (s : State) : State :=
  (dmaCopy page 256 0 s).requestCpuSkip (dmaStall s.sched.cpuCycles)

/-- The device side of a CPU write before the latch is updated (R211): RAM stores, the PPU registers take the
value, and every other device ignores it. -/
def State.writeDevice (s : State) (v : Byte) (t : Target) : State :=
  match t with
  | .hit id d off =>
    match d.kind with
    | .ppuRegisters =>
      let q := ppuRegisterWrite (registerOf off) v s.devices s.video
      (s.setDevices q.1).setVideo q.2
    | _ => s.setDevices (storeTarget s.devices v (.hit id d off))
  | _ => s

/-- Whether a target is the OAMDMA register. -/
def Target.isOamDma : Target → Bool
  | .hit _ d _ => d.kind == .oamDma
  | _ => false

/-- A CPU write to a resolved target (R211, R1240): the device, then the latch, and after the write the DMA it
triggers (log 11). -/
def State.writeTarget (s : State) (v : Byte) (t : Target) : State :=
  let s1 := s.writeDevice v t
  let s2 := s1.setCpuBus (s1.cpuBus.writeLatch v t)
  if t.isOamDma then oamDma v s2 else s2

/-- `MemWrite(addr, 1, v)` on the CPU AddressSpace (R13, R211). -/
def cpuWrite (addr : Word) (v : Byte) (s : State) : State :=
  s.writeTarget v (resolve s.cpuBus.writes s.devices addr.toNat)

/-- `poke(addr)` on the CPU AddressSpace: what a read would return, changing nothing (R212). -/
def cpuPoke (addr : Word) (s : State) : Byte :=
  match resolve s.cpuBus.reads s.devices addr.toNat with
  | .hit id d off =>
    match d.kind with
    | .ppuRegisters =>
      if d.pokeable then (ppuRegisterRead (registerOf off) s.devices s.video).1 else s.cpuBus.openBus
    | _ => s.cpuBus.pokeTarget .cpu (.hit id d off)
  | t => s.cpuBus.pokeTarget .cpu t

/-- `poke(addr)` on the PPU AddressSpace (R212). -/
def ppuPoke (addr : Nat) (s : State) : Byte :=
  s.video.bus.pokeTarget .ppu (resolve s.video.bus.reads s.devices (ppuAddr addr))

/-! ## Cycles -/

/-- One CPU cycle's own work: one bus access and its register transfers (R400). The flag says that the sequence
ends here although cycles are left in its list (an index that did not carry, a branch that is done). -/
abbrev Cycle := State → State × Bool

/-- The cycle number within the current sequence goes up by one (R107). -/
def Cpu.nextCycle (c : Cpu) : Cpu := { c with cycle := c.cycle + 1 }

/-- Performs one cycle at the CPU's present activation. -/
def runCycle (c : Cycle) (s : State) : State × Bool := (((c s).1.mapCpu Cpu.nextCycle), (c s).2)

/-- Performs the cycles of a sequence one after the other, each at its own activation: the scheduler first brings
the machine to it (R400, R1110). -/
def runCycles : List Cycle → State → State
  | [], s => s
  | c :: cs, s =>
    let r := runCycle c s.awaitCpu
    if r.2 then r.1 else runCycles cs r.1

/-- A cycle that reads `addr` and passes the byte to the CPU. -/
def readCycle (addr : Cpu → Word) (k : Byte → Cpu → Cpu) : Cycle := fun s =>
  let r := cpuRead (addr s.cpu) s
  (r.2.mapCpu (k r.1), false)

/-- A cycle that writes a byte, then transfers registers. -/
def writeCycle (addr : Cpu → Word) (v : Cpu → Byte) (k : Cpu → Cpu) : Cycle := fun s =>
  ((cpuWrite (addr s.cpu) (v s.cpu) s).mapCpu k, false)

/-- `DummyRead(addr)`: a read whose value is discarded (R13). -/
def dummyRead (addr : Cpu → Word) : Cycle := readCycle addr fun _ c => c

/-- `DummyRead(PC)` with PC unchanged (R410). -/
def dummyReadPc : Cycle := dummyRead Cpu.pc

/-! ## Register transfers the cycles make -/

def Cpu.setA (c : Cpu) (v : Byte) : Cpu := { c with a := v }
def Cpu.setX (c : Cpu) (v : Byte) : Cpu := { c with x := v }
def Cpu.setY (c : Cpu) (v : Byte) : Cpu := { c with y := v }
def Cpu.setS (c : Cpu) (v : Byte) : Cpu := { c with s := v }
def Cpu.setP (c : Cpu) (p : Flags) : Cpu := { c with p := p }
def Cpu.mapP (c : Cpu) (f : Flags → Flags) : Cpu := { c with p := f c.p }
def Cpu.setPc (c : Cpu) (a : Word) : Cpu := { c with pc := a }
def Cpu.setLo (c : Cpu) (v : Byte) : Cpu := { c with lo := v }
def Cpu.setHi (c : Cpu) (v : Byte) : Cpu := { c with hi := v }
def Cpu.setPtr (c : Cpu) (v : Byte) : Cpu := { c with ptr := v }
def Cpu.setEa (c : Cpu) (a : Word) : Cpu := { c with ea := a }
def Cpu.setVal (c : Cpu) (v : Byte) : Cpu := { c with val := v }
def Cpu.setOffset (c : Cpu) (v : Byte) : Cpu := { c with offset := v }
def Cpu.setCrossed (c : Cpu) (b : Bool) : Cpu := { c with crossed := b }
def Cpu.setPhase (c : Cpu) (ph : Phase) : Cpu := { c with phase := ph }
def Cpu.setCycle (c : Cpu) (n : Nat) : Cpu := { c with cycle := n }
def Cpu.setOpcode (c : Cpu) (b : Byte) : Cpu := { c with opcode := b }
def Cpu.setInhibit (c : Cpu) (b : Bool) : Cpu := { c with irqInhibit := b }

/-- `PC <- PC + 1 mod 2^16` (R103). -/
def Cpu.incPc (c : Cpu) : Cpu := c.setPc (c.pc + 1)

/-- `S <- S - 1 mod 256`, after a push (R102). -/
def Cpu.decS (c : Cpu) : Cpu := c.setS (c.s - 1)

/-- `S <- S + 1 mod 256`, before a pull (R102). -/
def Cpu.incS (c : Cpu) : Cpu := c.setS (c.s + 1)

/-- The address of the top of the stack (R102). -/
def Cpu.stackTop (c : Cpu) : Word := stackAddr c.s

/-- A cycle that pushes a byte (R102). -/
def pushCycle (v : Cpu → Byte) : Cycle := writeCycle Cpu.stackTop v Cpu.decS

/-- A cycle that reads the top of the stack (R102). -/
def pullCycle (k : Byte → Cpu → Cpu) : Cycle := readCycle Cpu.stackTop k

/-- The dummy read of the stack that precedes a pull, with the increment of S (R515, R713, R715). -/
def pullDummy : Cycle := pullCycle fun _ c => c.incS

/-- An operand fetch: `MemRead(PC); PC <- PC + 1`, the byte latched into a temporary (R401). -/
def operandCycle (latch : Byte → Cpu → Cpu) : Cycle := readCycle Cpu.pc fun b c => latch b c.incPc

/-! ## The end of an instruction -/

/-- The model's outcome: the next state, or the Fault an access raised (R14, R205; log 17). -/
def outcome (s : State) : Host.Outcome State Fault Refusal := if s.faulted then .fault .offsetPastDevice else .next s

/-- What one instruction, or one `step`, answers. -/
abbrev Result := Host.Outcome State Fault Refusal

/-- The CPU enters a phase at its first cycle. -/
def Cpu.enter (c : Cpu) (ph : Phase) : Cpu := (c.setPhase ph).setCycle 1

/-- The interrupt poll (R1020). -/
def poll (s : State) : State :=
  if s.cpu.irqInhibit then s.mapCpu (·.enter .fetch)
  else
    let s1 := s.setVideo (s.video.setNmi s.video.nmi.isAsserted.2)
    if s.video.nmi.isAsserted.1 then s1.mapCpu (·.enter (.interrupt .nmi))
    else if s.irq.isAsserted && !s.cpu.p.i then s1.mapCpu (·.enter (.interrupt .irq))
    else s1.mapCpu (·.enter .fetch)

/-- The end of an instruction's last cycle (R403): `irq_inhibit` is rewritten, then the lines are polled. `inhibit`
is true for CLI, SEI and PLP. -/
def endInstruction (inhibit : Bool) (s : State) : State := poll (s.mapCpu (·.setInhibit inhibit))

/-- Whether decimal mode is in force (R10, R602). -/
def Cpu.decimalMode (c : Cpu) : Bool := Config.decimalPresent && c.p.d

/-- The decimal-mode extra cycle, when there is one: `DummyRead(PC)` (R602). -/
def decimalCycle (s : State) : State :=
  if s.cpu.decimalMode then runCycles [dummyReadPc] (s.mapCpu (·.setPhase .decimalExtra)) else s

/-! ## Instructions as cycle programs -/

/-- What an instruction does, cycle by cycle (R401). `operands` says where each operand byte is latched; `skip` tells
from the registers that the cycles of `body` are not made (a branch that is not taken); `finish` is the operation
on the registers at the end of the last cycle (R404); `inhibit` marks CLI, SEI and PLP (R403); `decimal` marks the
instructions that contain ADC or SBC (R602). -/
structure Program where
  operands : List (Byte → Cpu → Cpu)
  body : List Cycle
  skip : Cpu → Bool
  finish : State → State
  inhibit : Bool
  decimal : Bool

/-- Latches operand bytes, one latch a byte. -/
def latchAll : List (Byte → Cpu → Cpu) → List Byte → Cpu → Cpu
  | l :: ls, b :: bs, c => latchAll ls bs (l b c)
  | _, _, c => c

/-- The cycles after the operand bytes and the operation on the registers (R401, R404). -/
def Program.rest (p : Program) (s : State) : State := p.finish (if p.skip s.cpu then s else runCycles p.body s)

/-- The end of an instruction: its decimal-mode cycle if it has one, and the end of its last cycle (R403, R602). -/
def Program.conclude (p : Program) (s : State) : State :=
  endInstruction p.inhibit (if p.decimal then decimalCycle s else s)

/-- A whole instruction, its operand bytes fetched: PC is past them (R401). -/
def Program.run (p : Program) (operands : List Byte) (s : State) : Result :=
  outcome (p.conclude (p.rest (s.mapCpu (latchAll p.operands operands))))

/-! ## Taking an interrupt, and the reset sequence -/

/-- The vector addresses (R1030). -/
def vectorNmi : Word := 0xFFFA
def vectorReset : Word := 0xFFFC
def vectorIrq : Word := 0xFFFE

/-- T6 and T7 of the vector routine: the handler's address, with `P.I <- 1` at T6 (R714, R1030, R1040). -/
def vectorCycles (vec : Word) : List Cycle :=
  [ readCycle (fun _ => vec) fun b c => (c.setLo b).mapP fun p => { p with i := true },
    readCycle (fun _ => vec + 1) fun b c => (c.setHi b).setPc (joinBytes b c.lo) ]

/-- TAKING AN EXCEPTION: T3 to T7 of the vector routine that BRK, IRQ and NMI share (R714, R1030, R1031): PC's high
and low byte and the status byte are pushed, I is set, and PC is loaded from the vector. They differ only in the
vector and in the status byte pushed. -/
def takeException (vec : Word) (status : Flags → Byte) : List Cycle :=
  [ pushCycle fun c => hiByte c.pc, pushCycle fun c => loByte c.pc, pushCycle fun c => status c.p ]
    ++ vectorCycles vec

/-- Where an interrupt kind goes (R1030). -/
def Interrupt.vector : Interrupt → Word
  | .nmi => vectorNmi
  | .irq => vectorIrq

/-- The seven cycles of an IRQ or NMI sequence (R1030). -/
def interruptCycles (k : Interrupt) : List Cycle :=
  [dummyReadPc, dummyReadPc] ++ takeException k.vector Flags.pushedByHardware

/-- The end of an interrupt sequence: no poll (R1020, R1030). -/
def endInterrupt (s : State) : State := s.mapCpu (·.enter .fetch)

/-- RETURN FROM AN EXCEPTION: T3 to T6 of RTI (R715, R1032): the status, then PC, which is not incremented. -/
def returnFromException : List Cycle :=
  [ pullDummy,
    pullCycle fun b c => ((c.setVal b).setP (Flags.ofByte b)).incS,
    pullCycle fun b c => (c.setLo b).incS,
    pullCycle fun b c => (c.setHi b).setPc (joinBytes b c.lo) ]

/-- A stack read of the reset sequence, with the decrement of S (R1040). -/
def resetStackCycle : Cycle := readCycle Cpu.stackTop fun _ c => c.decS

/-- The seven cycles of the reset sequence (R1040). -/
def resetCycles : List Cycle :=
  [dummyReadPc, dummyReadPc, resetStackCycle, resetStackCycle, resetStackCycle] ++ vectorCycles vectorReset

/-- The end of the reset sequence: no poll (R1040). -/
def endReset (s : State) : State := s.mapCpu fun c => (c.enter .fetch).setInhibit false

end Sys2Proof.Machine
end

