-- ==== Sys2Proof/Machine/Operands.lean ====
section
/-! DEFINITION. Every addressing mode (files 30 R303 and 40), cycle by cycle: the operand latches, and the cycles
after the operand bytes for each access class. -/

namespace Sys2Proof.Machine

/-! ## Operand latches: what fetching the operand bytes leaves in the temporaries -/

/-- Immediate: the value (R412). -/
def latchImm (b : Byte) (c : Cpu) : Cpu := (c.setLo b).setVal b

/-- Zero page: the effective address (R420). -/
def latchZp (b : Byte) (c : Cpu) : Cpu := (c.setLo b).setEa (zeroPage b)

/-- The base of a zero-page indexed mode or of `(zp,X)` (R430, R440), or the low byte of an address (R431, R432). -/
def latchLo (b : Byte) (c : Cpu) : Cpu := c.setLo b

/-- The pointer of `(zp),Y` (R441). -/
def latchPtr (b : Byte) (c : Cpu) : Cpu := (c.setLo b).setPtr b

/-- The offset of a branch (R450). -/
def latchOffset (b : Byte) (c : Cpu) : Cpu := (c.setLo b).setOffset b

/-- The high byte of an address: the effective address of `abs` and the base of the indexed modes (R431, R432). -/
def latchHi (b : Byte) (c : Cpu) : Cpu := (c.setHi b).setEa (joinBytes b c.lo)

/-- A high byte that forms no effective address (R710, R820). -/
def latchHigh (b : Byte) (c : Cpu) : Cpu := c.setHi b

/-! ## Final accesses (R405) -/

/-- `val <- MemRead(ea)`. -/
def readEa : Cycle := readCycle Cpu.ea fun b c => c.setVal b

/-- `MemWrite(ea, result)`. -/
def writeEa (result : Cpu → Byte) : Cycle := writeCycle Cpu.ea result id

/-- `DummyWrite(ea, val)`: the unmodified value. -/
def dummyWriteEa : Cycle := writeEa Cpu.val

/-- The rmw class: read, dummy write, write of the new value (R405, R421). -/
def rmwEa (new : Byte → Cpu → Byte) : List Cycle := [readEa, dummyWriteEa, writeEa fun c => new c.val c]

/-! ## Indexing -/

/-- T3 of the zero-page indexed modes: dummy read of the base, index added inside page 0 (R430). -/
def zpIndex (idx : Cpu → Byte) : Cycle :=
  readCycle (fun c => zeroPage c.lo) fun _ c => c.setEa (zeroPage (c.lo + idx c))

/-- Whether adding the index to the low byte carries (R406). -/
def carries (lo idx : Byte) : Bool := decide (0xFF < lo.toNat + idx.toNat)

/-- The address formed without the carry: the wrong page when the index carries (R432, R433). -/
def uncarried (idx : Cpu → Byte) (c : Cpu) : Word := joinBytes c.hi (c.lo + idx c)

/-- The indexed effective address, modulo 2^16 (R432, R433). -/
def indexed (idx : Cpu → Byte) (c : Cpu) : Word := joinBytes c.hi c.lo + zeroPage (idx c)

/-- The index cycle of the read class: it reads the operand when the index does not carry, and is a dummy read of
the wrong page when it does (R432, R441). -/
def indexRead (idx : Cpu → Byte) : Cycle := fun s =>
  let r := readCycle (uncarried idx)
    (fun b c => ((c.setVal b).setEa (indexed idx c)).setCrossed (carries c.lo (idx c))) s
  (r.1, !carries s.cpu.lo (idx s.cpu))

/-- The index cycle of the write and rmw classes: always a dummy read (R433, R442). -/
def indexAlways (idx : Cpu → Byte) : Cycle :=
  readCycle (uncarried idx) fun _ c => (c.setEa (indexed idx c)).setCrossed (carries c.lo (idx c))

/-- The pointer cycles of `(zp,X)`: dummy read of the base, then the pointer's two bytes inside page 0 (R440). -/
def izxPointer : List Cycle :=
  [ readCycle (fun c => zeroPage c.lo) fun _ c => c.setPtr (c.lo + c.x),
    readCycle (fun c => zeroPage c.ptr) fun b c => c.setLo b,
    readCycle (fun c => zeroPage (c.ptr + 1)) fun b c => (c.setHi b).setEa (joinBytes b c.lo) ]

/-- The pointer cycles of `(zp),Y`: the pointer's two bytes inside page 0 (R441, R442). -/
def izyPointer : List Cycle :=
  [ readCycle (fun c => zeroPage c.ptr) fun b c => c.setLo b,
    readCycle (fun c => zeroPage (c.ptr + 1)) fun b c => c.setHi b ]

/-! ## Operations -/

/-- An operation of the read class, applied to the operand in `val` at the end of the last cycle (R404, R405). -/
def onVal (op : Byte → Cpu → Cpu) (s : State) : State := s.mapCpu fun c => op c.val c

/-- The accumulator form of a read-modify-write operation: operand `A`, result to `A` (R411). -/
def onA (new : Byte → Cpu → Byte) (op : Byte → Cpu → Cpu) (c : Cpu) : Cpu := (op c.a c).setA (new c.a c)

/-! ## The forms of each mode -/

/-- A program that always runs its cycles. -/
def plain (operands : List (Byte → Cpu → Cpu)) (body : List Cycle) (finish : State → State) : Program where
  operands := operands
  body := body
  skip := fun _ => false
  finish := finish
  inhibit := false
  decimal := false

/-- The same program as one of CLI, SEI and PLP (R403). -/
def Program.inhibiting (p : Program) : Program := { p with inhibit := true }

/-- The same program as one that contains ADC or SBC (R602). -/
def Program.decimally (p : Program) : Program := { p with decimal := true }

/-- Implied: the dummy read of the next byte (R410). -/
def implied (op : Cpu → Cpu) : Program := plain [] [dummyReadPc] fun s => s.mapCpu op

/-- Accumulator (R411). -/
def accumulator (new : Byte → Cpu → Byte) (op : Byte → Cpu → Cpu) : Program := implied (onA new op)

/-- Read class (R405, R412, R420, R430 to R432, R440, R441). -/
def immRead (op : Byte → Cpu → Cpu) : Program := plain [latchImm] [] (onVal op)
def zpRead (op : Byte → Cpu → Cpu) : Program := plain [latchZp] [readEa] (onVal op)
def zpxRead (op : Byte → Cpu → Cpu) : Program := plain [latchLo] [zpIndex Cpu.x, readEa] (onVal op)
def zpyRead (op : Byte → Cpu → Cpu) : Program := plain [latchLo] [zpIndex Cpu.y, readEa] (onVal op)
def absRead (op : Byte → Cpu → Cpu) : Program := plain [latchLo, latchHi] [readEa] (onVal op)
def absxRead (op : Byte → Cpu → Cpu) : Program := plain [latchLo, latchHi] [indexRead Cpu.x, readEa] (onVal op)
def absyRead (op : Byte → Cpu → Cpu) : Program := plain [latchLo, latchHi] [indexRead Cpu.y, readEa] (onVal op)
def izxRead (op : Byte → Cpu → Cpu) : Program := plain [latchLo] (izxPointer ++ [readEa]) (onVal op)
def izyRead (op : Byte → Cpu → Cpu) : Program :=
  plain [latchPtr] (izyPointer ++ [indexRead Cpu.y, readEa]) (onVal op)

/-- Write class, storing `r` of the registers (R405, R420, R430, R431, R433, R440, R442). -/
def zpWrite (r : Cpu → Byte) : Program := plain [latchZp] [writeEa r] id
def zpxWrite (r : Cpu → Byte) : Program := plain [latchLo] [zpIndex Cpu.x, writeEa r] id
def zpyWrite (r : Cpu → Byte) : Program := plain [latchLo] [zpIndex Cpu.y, writeEa r] id
def absWrite (r : Cpu → Byte) : Program := plain [latchLo, latchHi] [writeEa r] id
def absxWrite (r : Cpu → Byte) : Program := plain [latchLo, latchHi] [indexAlways Cpu.x, writeEa r] id
def absyWrite (r : Cpu → Byte) : Program := plain [latchLo, latchHi] [indexAlways Cpu.y, writeEa r] id
def izxWrite (r : Cpu → Byte) : Program := plain [latchLo] (izxPointer ++ [writeEa r]) id
def izyWrite (r : Cpu → Byte) : Program := plain [latchPtr] (izyPointer ++ [indexAlways Cpu.y, writeEa r]) id

/-- Read-modify-write class: `new` gives the byte written and `op` what the registers become, both from the byte
read (R405, R420, R421, R430, R431, R433, R440, R442). -/
def zpRmw (new : Byte → Cpu → Byte) (op : Byte → Cpu → Cpu) : Program := plain [latchZp] (rmwEa new) (onVal op)
def zpxRmw (new : Byte → Cpu → Byte) (op : Byte → Cpu → Cpu) : Program :=
  plain [latchLo] (zpIndex Cpu.x :: rmwEa new) (onVal op)
def absRmw (new : Byte → Cpu → Byte) (op : Byte → Cpu → Cpu) : Program :=
  plain [latchLo, latchHi] (rmwEa new) (onVal op)
def absxRmw (new : Byte → Cpu → Byte) (op : Byte → Cpu → Cpu) : Program :=
  plain [latchLo, latchHi] (indexAlways Cpu.x :: rmwEa new) (onVal op)
def absyRmw (new : Byte → Cpu → Byte) (op : Byte → Cpu → Cpu) : Program :=
  plain [latchLo, latchHi] (indexAlways Cpu.y :: rmwEa new) (onVal op)
def izxRmw (new : Byte → Cpu → Byte) (op : Byte → Cpu → Cpu) : Program :=
  plain [latchLo] (izxPointer ++ rmwEa new) (onVal op)
def izyRmw (new : Byte → Cpu → Byte) (op : Byte → Cpu → Cpu) : Program :=
  plain [latchPtr] (izyPointer ++ (indexAlways Cpu.y :: rmwEa new)) (onVal op)

/-! ## Branches and the indirect jump -/

/-- The target of a branch (R450). -/
def branchTarget (c : Cpu) : Word := c.pc + signExtend16 c.offset

/-- Whether the target is on another page than the next instruction (R406). -/
def branchCrosses (c : Cpu) : Bool := hiByte (branchTarget c) != hiByte c.pc

/-- T3 of a taken branch: dummy read at PC; the branch is done when the page is not crossed (R450). -/
def branchT3 : Cycle := fun s =>
  let r := readCycle Cpu.pc
    (fun _ c => (if branchCrosses c then c else c.setPc (branchTarget c)).setCrossed (branchCrosses c)) s
  (r.1, !branchCrosses s.cpu)

/-- T4 of a branch that crosses a page: dummy read of the wrong page (R450). -/
def branchT4 : Cycle :=
  readCycle (fun c => joinBytes (hiByte c.pc) (loByte (branchTarget c))) fun _ c => c.setPc (branchTarget c)

/-- A branch: its cycles after the offset byte are made when the condition holds for the flags at the start of the
instruction, which fetching leaves unchanged (R450, R700). -/
def branch (cond : Flags → Bool) : Program where
  operands := [latchOffset]
  body := [branchT3, branchT4]
  skip := fun c => !cond c.p
  finish := id
  inhibit := false
  decimal := false

/-- T4 and T5 of JMP indirect: the pointer's high byte is read in the pointer's own page (R451, R711). -/
def indirectCycles : List Cycle :=
  [ readCycle Cpu.ea fun b c => c.setVal b,
    readCycle (fun c => joinBytes c.hi (c.lo + 1)) fun b c => c.setPc (joinBytes b c.val) ]

/-! ## The fallback class -/

/-- The record of a fallback opcode, kept when the instruction ends (R14, R820; log 15): PC is past the operands. -/
def logFallback (opcode : Byte) (length : Nat) (s : State) : State :=
  s.logDiagnostic { pc := s.cpu.pc - BitVec.ofNat 16 length, opcode := opcode }

/-- The operand latches of a fallback opcode: its bytes are fetched and discarded (R820). -/
def discardLatches (length : Nat) : List (Byte → Cpu → Cpu) := [latchLo, latchHigh].take (length - 1)

/-- The fallback NOP of `length` bytes and `cycles` cycles: after the operand bytes, dummy reads of PC (R820). -/
def fallback (opcode : Byte) (length cycles : Nat) : Program :=
  plain (discardLatches length) (List.replicate (cycles - length) dummyReadPc) (logFallback opcode length)

end Sys2Proof.Machine
end

