-- ==== Sys2Proof/Machine/Control.lean ====
section
/-! DEFINITION. Branches, jumps, subroutines, BRK, RTI, flag instructions and NOP (file 43). -/

namespace Sys2Proof.Machine

/-! ## Branches -/

/-- BPL, `rel`, opcode 10 (R701). -/
def progBpl : Program := branch fun p => !p.n
def execBpl (b : Byte) (s : State) : Result := progBpl.run [b] s

/-- BMI, `rel`, opcode 30 (R702). -/
def progBmi : Program := branch fun p => p.n
def execBmi (b : Byte) (s : State) : Result := progBmi.run [b] s

/-- BVC, `rel`, opcode 50 (R703). -/
def progBvc : Program := branch fun p => !p.v
def execBvc (b : Byte) (s : State) : Result := progBvc.run [b] s

/-- BVS, `rel`, opcode 70 (R704). -/
def progBvs : Program := branch fun p => p.v
def execBvs (b : Byte) (s : State) : Result := progBvs.run [b] s

/-- BCC, `rel`, opcode 90 (R705). -/
def progBcc : Program := branch fun p => !p.c
def execBcc (b : Byte) (s : State) : Result := progBcc.run [b] s

/-- BCS, `rel`, opcode B0 (R706). -/
def progBcs : Program := branch fun p => p.c
def execBcs (b : Byte) (s : State) : Result := progBcs.run [b] s

/-- BNE, `rel`, opcode D0 (R707). -/
def progBne : Program := branch fun p => !p.z
def execBne (b : Byte) (s : State) : Result := progBne.run [b] s

/-- BEQ, `rel`, opcode F0 (R708). -/
def progBeq : Program := branch fun p => p.z
def execBeq (b : Byte) (s : State) : Result := progBeq.run [b] s

/-! ## Jumps and subroutines -/

/-- PC takes the address the operand bytes gave (R710). -/
def jumpToOperand (c : Cpu) : Cpu := c.setPc (joinBytes c.hi c.lo)

/-- JMP, `abs`, opcode 4C (R710). -/
def progJmpAbs : Program := plain [latchLo, latchHigh] [] fun s => s.mapCpu jumpToOperand
def execJmpAbs (w : Word) (s : State) : Result := progJmpAbs.run [loByte w, hiByte w] s

/-- JMP, `ind`, opcode 6C (R711). -/
def progJmpInd : Program := plain [latchLo, latchHi] indirectCycles id
def execJmpInd (w : Word) (s : State) : Result := progJmpInd.run [loByte w, hiByte w] s

/-- T3 to T6 of JSR: the address of its last byte is pushed, and that byte is read after the pushes (R712; log 16). -/
def jsrCycles : List Cycle :=
  [ dummyRead Cpu.stackTop, pushCycle fun c => hiByte c.pc, pushCycle fun c => loByte c.pc,
    readCycle Cpu.pc fun b c => (c.setHi b).setPc (joinBytes b c.lo) ]

/-- JSR, `abs`, opcode 20 (R712). -/
def progJsrAbs : Program := plain [latchLo] jsrCycles id
def execJsrAbs (w : Word) (s : State) : Result := progJsrAbs.run [loByte w, hiByte w] s

/-- T2 to T6 of RTS: the pulled address is incremented (R713). -/
def rtsCycles : List Cycle :=
  [ dummyReadPc, pullDummy,
    pullCycle fun b c => (c.setLo b).incS,
    pullCycle fun b c => (c.setHi b).setPc (joinBytes b c.lo),
    readCycle Cpu.pc fun _ c => c.incPc ]

/-- RTS, `imp`, opcode 60 (R713). -/
def progRts : Program := plain [] rtsCycles id
def execRts (s : State) : Result := progRts.run [] s

/-! ## BRK and RTI -/

/-- BRK, `imp`, opcode 00 (R714). -/
def progBrk : Program := plain [latchLo] (takeException vectorIrq Flags.pushedBySoftware) id
def execBrk (b : Byte) (s : State) : Result := progBrk.run [b] s

/-- RTI, `imp`, opcode 40 (R715). -/
def progRti : Program := plain [] (dummyReadPc :: returnFromException) id
def execRti (s : State) : Result := progRti.run [] s

/-! ## Flag instructions and NOP -/

/-- CLC's operation (R720). -/
def opClc (c : Cpu) : Cpu := c.mapP fun p => { p with c := false }

/-- CLC, `imp`, opcode 18 (R720). -/
def progClc : Program := implied opClc
def execClc (s : State) : Result := progClc.run [] s

/-- SEC's operation (R721). -/
def opSec (c : Cpu) : Cpu := c.mapP fun p => { p with c := true }

/-- SEC, `imp`, opcode 38 (R721). -/
def progSec : Program := implied opSec
def execSec (s : State) : Result := progSec.run [] s

/-- CLI's operation (R722). -/
def opCli (c : Cpu) : Cpu := c.mapP fun p => { p with i := false }

/-- CLI, `imp`, opcode 58 (R722). -/
def progCli : Program := (implied opCli).inhibiting
def execCli (s : State) : Result := progCli.run [] s

/-- SEI's operation (R723). -/
def opSei (c : Cpu) : Cpu := c.mapP fun p => { p with i := true }

/-- SEI, `imp`, opcode 78 (R723). -/
def progSei : Program := (implied opSei).inhibiting
def execSei (s : State) : Result := progSei.run [] s

/-- CLV's operation (R724). -/
def opClv (c : Cpu) : Cpu := c.mapP fun p => { p with v := false }

/-- CLV, `imp`, opcode B8 (R724). -/
def progClv : Program := implied opClv
def execClv (s : State) : Result := progClv.run [] s

/-- CLD's operation (R725). -/
def opCld (c : Cpu) : Cpu := c.mapP fun p => { p with d := false }

/-- CLD, `imp`, opcode D8 (R725). -/
def progCld : Program := implied opCld
def execCld (s : State) : Result := progCld.run [] s

/-- SED's operation (R726). -/
def opSed (c : Cpu) : Cpu := c.mapP fun p => { p with d := true }

/-- SED, `imp`, opcode F8 (R726). -/
def progSed : Program := implied opSed
def execSed (s : State) : Result := progSed.run [] s

/-- NOP, `imp`, opcode EA (R730). -/
def progNop : Program := implied id
def execNop (s : State) : Result := progNop.run [] s

end Sys2Proof.Machine
end

