-- ==== Sys2Proof/Machine/LoadStore.lean ====
section
/-! DEFINITION. Loads, stores, register transfers and stack operations (file 41). -/

namespace Sys2Proof.Machine

/-! ## Loads and stores -/

/-- LDA's operation (R501). -/
def opLda (v : Byte) (c : Cpu) : Cpu := (c.setA v).mapP (·.setNZ v)

/-- LDA, `izx`, opcode A1 (R501). -/
def progLdaIzx : Program := izxRead opLda
def execLdaIzx (b : Byte) (s : State) : Result := progLdaIzx.run [b] s

/-- LDA, `zp`, opcode A5 (R501). -/
def progLdaZp : Program := zpRead opLda
def execLdaZp (b : Byte) (s : State) : Result := progLdaZp.run [b] s

/-- LDA, `imm`, opcode A9 (R501). -/
def progLdaImm : Program := immRead opLda
def execLdaImm (b : Byte) (s : State) : Result := progLdaImm.run [b] s

/-- LDA, `abs`, opcode AD (R501). -/
def progLdaAbs : Program := absRead opLda
def execLdaAbs (w : Word) (s : State) : Result := progLdaAbs.run [loByte w, hiByte w] s

/-- LDA, `izy`, opcode B1 (R501). -/
def progLdaIzy : Program := izyRead opLda
def execLdaIzy (b : Byte) (s : State) : Result := progLdaIzy.run [b] s

/-- LDA, `zpx`, opcode B5 (R501). -/
def progLdaZpx : Program := zpxRead opLda
def execLdaZpx (b : Byte) (s : State) : Result := progLdaZpx.run [b] s

/-- LDA, `absy`, opcode B9 (R501). -/
def progLdaAbsy : Program := absyRead opLda
def execLdaAbsy (w : Word) (s : State) : Result := progLdaAbsy.run [loByte w, hiByte w] s

/-- LDA, `absx`, opcode BD (R501). -/
def progLdaAbsx : Program := absxRead opLda
def execLdaAbsx (w : Word) (s : State) : Result := progLdaAbsx.run [loByte w, hiByte w] s

/-- LDX's operation (R502). -/
def opLdx (v : Byte) (c : Cpu) : Cpu := (c.setX v).mapP (·.setNZ v)

/-- LDX, `imm`, opcode A2 (R502). -/
def progLdxImm : Program := immRead opLdx
def execLdxImm (b : Byte) (s : State) : Result := progLdxImm.run [b] s

/-- LDX, `zp`, opcode A6 (R502). -/
def progLdxZp : Program := zpRead opLdx
def execLdxZp (b : Byte) (s : State) : Result := progLdxZp.run [b] s

/-- LDX, `abs`, opcode AE (R502). -/
def progLdxAbs : Program := absRead opLdx
def execLdxAbs (w : Word) (s : State) : Result := progLdxAbs.run [loByte w, hiByte w] s

/-- LDX, `zpy`, opcode B6 (R502). -/
def progLdxZpy : Program := zpyRead opLdx
def execLdxZpy (b : Byte) (s : State) : Result := progLdxZpy.run [b] s

/-- LDX, `absy`, opcode BE (R502). -/
def progLdxAbsy : Program := absyRead opLdx
def execLdxAbsy (w : Word) (s : State) : Result := progLdxAbsy.run [loByte w, hiByte w] s

/-- LDY's operation (R503). -/
def opLdy (v : Byte) (c : Cpu) : Cpu := (c.setY v).mapP (·.setNZ v)

/-- LDY, `imm`, opcode A0 (R503). -/
def progLdyImm : Program := immRead opLdy
def execLdyImm (b : Byte) (s : State) : Result := progLdyImm.run [b] s

/-- LDY, `zp`, opcode A4 (R503). -/
def progLdyZp : Program := zpRead opLdy
def execLdyZp (b : Byte) (s : State) : Result := progLdyZp.run [b] s

/-- LDY, `abs`, opcode AC (R503). -/
def progLdyAbs : Program := absRead opLdy
def execLdyAbs (w : Word) (s : State) : Result := progLdyAbs.run [loByte w, hiByte w] s

/-- LDY, `zpx`, opcode B4 (R503). -/
def progLdyZpx : Program := zpxRead opLdy
def execLdyZpx (b : Byte) (s : State) : Result := progLdyZpx.run [b] s

/-- LDY, `absx`, opcode BC (R503). -/
def progLdyAbsx : Program := absxRead opLdy
def execLdyAbsx (w : Word) (s : State) : Result := progLdyAbsx.run [loByte w, hiByte w] s

/-- STA, `izx`, opcode 81 (R504). -/
def progStaIzx : Program := izxWrite Cpu.a
def execStaIzx (b : Byte) (s : State) : Result := progStaIzx.run [b] s

/-- STA, `zp`, opcode 85 (R504). -/
def progStaZp : Program := zpWrite Cpu.a
def execStaZp (b : Byte) (s : State) : Result := progStaZp.run [b] s

/-- STA, `abs`, opcode 8D (R504). -/
def progStaAbs : Program := absWrite Cpu.a
def execStaAbs (w : Word) (s : State) : Result := progStaAbs.run [loByte w, hiByte w] s

/-- STA, `izy`, opcode 91 (R504). -/
def progStaIzy : Program := izyWrite Cpu.a
def execStaIzy (b : Byte) (s : State) : Result := progStaIzy.run [b] s

/-- STA, `zpx`, opcode 95 (R504). -/
def progStaZpx : Program := zpxWrite Cpu.a
def execStaZpx (b : Byte) (s : State) : Result := progStaZpx.run [b] s

/-- STA, `absy`, opcode 99 (R504). -/
def progStaAbsy : Program := absyWrite Cpu.a
def execStaAbsy (w : Word) (s : State) : Result := progStaAbsy.run [loByte w, hiByte w] s

/-- STA, `absx`, opcode 9D (R504). -/
def progStaAbsx : Program := absxWrite Cpu.a
def execStaAbsx (w : Word) (s : State) : Result := progStaAbsx.run [loByte w, hiByte w] s

/-- STX, `zp`, opcode 86 (R505). -/
def progStxZp : Program := zpWrite Cpu.x
def execStxZp (b : Byte) (s : State) : Result := progStxZp.run [b] s

/-- STX, `abs`, opcode 8E (R505). -/
def progStxAbs : Program := absWrite Cpu.x
def execStxAbs (w : Word) (s : State) : Result := progStxAbs.run [loByte w, hiByte w] s

/-- STX, `zpy`, opcode 96 (R505). -/
def progStxZpy : Program := zpyWrite Cpu.x
def execStxZpy (b : Byte) (s : State) : Result := progStxZpy.run [b] s

/-- STY, `zp`, opcode 84 (R506). -/
def progStyZp : Program := zpWrite Cpu.y
def execStyZp (b : Byte) (s : State) : Result := progStyZp.run [b] s

/-- STY, `abs`, opcode 8C (R506). -/
def progStyAbs : Program := absWrite Cpu.y
def execStyAbs (w : Word) (s : State) : Result := progStyAbs.run [loByte w, hiByte w] s

/-- STY, `zpx`, opcode 94 (R506). -/
def progStyZpx : Program := zpxWrite Cpu.y
def execStyZpx (b : Byte) (s : State) : Result := progStyZpx.run [b] s

/-! ## Transfers -/

/-- TAX's operation (R507). -/
def opTax (c : Cpu) : Cpu := (c.setX c.a).mapP (·.setNZ c.a)

/-- TAX, `imp`, opcode AA (R507). -/
def progTax : Program := implied opTax
def execTax (s : State) : Result := progTax.run [] s

/-- TAY's operation (R508). -/
def opTay (c : Cpu) : Cpu := (c.setY c.a).mapP (·.setNZ c.a)

/-- TAY, `imp`, opcode A8 (R508). -/
def progTay : Program := implied opTay
def execTay (s : State) : Result := progTay.run [] s

/-- TXA's operation (R509). -/
def opTxa (c : Cpu) : Cpu := (c.setA c.x).mapP (·.setNZ c.x)

/-- TXA, `imp`, opcode 8A (R509). -/
def progTxa : Program := implied opTxa
def execTxa (s : State) : Result := progTxa.run [] s

/-- TYA's operation (R510). -/
def opTya (c : Cpu) : Cpu := (c.setA c.y).mapP (·.setNZ c.y)

/-- TYA, `imp`, opcode 98 (R510). -/
def progTya : Program := implied opTya
def execTya (s : State) : Result := progTya.run [] s

/-- TSX's operation (R511). -/
def opTsx (c : Cpu) : Cpu := (c.setX c.s).mapP (·.setNZ c.s)

/-- TSX, `imp`, opcode BA (R511). -/
def progTsx : Program := implied opTsx
def execTsx (s : State) : Result := progTsx.run [] s

/-- TXS's operation (R512). -/
def opTxs (c : Cpu) : Cpu := c.setS c.x

/-- TXS, `imp`, opcode 9A (R512). -/
def progTxs : Program := implied opTxs
def execTxs (s : State) : Result := progTxs.run [] s

/-! ## Stack operations -/

/-- PHA, `imp`, opcode 48 (R513). -/
def progPha : Program := plain [] [dummyReadPc, pushCycle Cpu.a] id
def execPha (s : State) : Result := progPha.run [] s

/-- PHP, `imp`, opcode 08 (R514). -/
def progPhp : Program := plain [] [dummyReadPc, pushCycle fun c => c.p.pushedBySoftware] id
def execPhp (s : State) : Result := progPhp.run [] s

/-- The cycles of a pull into `val` (R515, R516). -/
def pullVal : List Cycle := [dummyReadPc, pullDummy, pullCycle fun b c => c.setVal b]

/-- PLA, `imp`, opcode 68 (R515). -/
def progPla : Program := plain [] pullVal (onVal opLda)
def execPla (s : State) : Result := progPla.run [] s

/-- PLP's operation: bits 4 and 5 are ignored (R516). -/
def opPlp (v : Byte) (c : Cpu) : Cpu := c.setP (Flags.ofByte v)

/-- PLP, `imp`, opcode 28 (R516). -/
def progPlp : Program := (plain [] pullVal (onVal opPlp)).inhibiting
def execPlp (s : State) : Result := progPlp.run [] s

end Sys2Proof.Machine
end

