-- ==== Sys2Proof/Machine/Arithmetic.lean ====
section
/-! DEFINITION. Arithmetic, logic, compare, increment, decrement, shift and rotate instructions (file 42). -/

namespace Sys2Proof.Machine

/-! ## Add and subtract -/

/-- ADC's operation (R601). -/
def opAdc (v : Byte) (c : Cpu) : Cpu :=
  (c.setA (adcSum c.decimalMode c.a v c.p.c).r).mapP fun p => p.setSum (adcSum c.decimalMode c.a v c.p.c)

/-- ADC, `izx`, opcode 61 (R601). -/
def progAdcIzx : Program := (izxRead opAdc).decimally
def execAdcIzx (b : Byte) (s : State) : Result := progAdcIzx.run [b] s

/-- ADC, `zp`, opcode 65 (R601). -/
def progAdcZp : Program := (zpRead opAdc).decimally
def execAdcZp (b : Byte) (s : State) : Result := progAdcZp.run [b] s

/-- ADC, `imm`, opcode 69 (R601). -/
def progAdcImm : Program := (immRead opAdc).decimally
def execAdcImm (b : Byte) (s : State) : Result := progAdcImm.run [b] s

/-- ADC, `abs`, opcode 6D (R601). -/
def progAdcAbs : Program := (absRead opAdc).decimally
def execAdcAbs (w : Word) (s : State) : Result := progAdcAbs.run [loByte w, hiByte w] s

/-- ADC, `izy`, opcode 71 (R601). -/
def progAdcIzy : Program := (izyRead opAdc).decimally
def execAdcIzy (b : Byte) (s : State) : Result := progAdcIzy.run [b] s

/-- ADC, `zpx`, opcode 75 (R601). -/
def progAdcZpx : Program := (zpxRead opAdc).decimally
def execAdcZpx (b : Byte) (s : State) : Result := progAdcZpx.run [b] s

/-- ADC, `absy`, opcode 79 (R601). -/
def progAdcAbsy : Program := (absyRead opAdc).decimally
def execAdcAbsy (w : Word) (s : State) : Result := progAdcAbsy.run [loByte w, hiByte w] s

/-- ADC, `absx`, opcode 7D (R601). -/
def progAdcAbsx : Program := (absxRead opAdc).decimally
def execAdcAbsx (w : Word) (s : State) : Result := progAdcAbsx.run [loByte w, hiByte w] s

/-- SBC's operation (R605). -/
def opSbc (v : Byte) (c : Cpu) : Cpu :=
  (c.setA (sbcSum c.decimalMode c.a v c.p.c).r).mapP fun p => p.setSum (sbcSum c.decimalMode c.a v c.p.c)

/-- SBC, `izx`, opcode E1 (R605). -/
def progSbcIzx : Program := (izxRead opSbc).decimally
def execSbcIzx (b : Byte) (s : State) : Result := progSbcIzx.run [b] s

/-- SBC, `zp`, opcode E5 (R605). -/
def progSbcZp : Program := (zpRead opSbc).decimally
def execSbcZp (b : Byte) (s : State) : Result := progSbcZp.run [b] s

/-- SBC, `imm`, opcode E9 (R605). -/
def progSbcImm : Program := (immRead opSbc).decimally
def execSbcImm (b : Byte) (s : State) : Result := progSbcImm.run [b] s

/-- SBC, `abs`, opcode ED (R605). -/
def progSbcAbs : Program := (absRead opSbc).decimally
def execSbcAbs (w : Word) (s : State) : Result := progSbcAbs.run [loByte w, hiByte w] s

/-- SBC, `izy`, opcode F1 (R605). -/
def progSbcIzy : Program := (izyRead opSbc).decimally
def execSbcIzy (b : Byte) (s : State) : Result := progSbcIzy.run [b] s

/-- SBC, `zpx`, opcode F5 (R605). -/
def progSbcZpx : Program := (zpxRead opSbc).decimally
def execSbcZpx (b : Byte) (s : State) : Result := progSbcZpx.run [b] s

/-- SBC, `absy`, opcode F9 (R605). -/
def progSbcAbsy : Program := (absyRead opSbc).decimally
def execSbcAbsy (w : Word) (s : State) : Result := progSbcAbsy.run [loByte w, hiByte w] s

/-- SBC, `absx`, opcode FD (R605). -/
def progSbcAbsx : Program := (absxRead opSbc).decimally
def execSbcAbsx (w : Word) (s : State) : Result := progSbcAbsx.run [loByte w, hiByte w] s

/-! ## Logic -/

/-- AND's operation (R607). -/
def opAnd (v : Byte) (c : Cpu) : Cpu := (c.setA (c.a &&& v)).mapP (·.setNZ (c.a &&& v))

/-- AND, `izx`, opcode 21 (R607). -/
def progAndIzx : Program := izxRead opAnd
def execAndIzx (b : Byte) (s : State) : Result := progAndIzx.run [b] s

/-- AND, `zp`, opcode 25 (R607). -/
def progAndZp : Program := zpRead opAnd
def execAndZp (b : Byte) (s : State) : Result := progAndZp.run [b] s

/-- AND, `imm`, opcode 29 (R607). -/
def progAndImm : Program := immRead opAnd
def execAndImm (b : Byte) (s : State) : Result := progAndImm.run [b] s

/-- AND, `abs`, opcode 2D (R607). -/
def progAndAbs : Program := absRead opAnd
def execAndAbs (w : Word) (s : State) : Result := progAndAbs.run [loByte w, hiByte w] s

/-- AND, `izy`, opcode 31 (R607). -/
def progAndIzy : Program := izyRead opAnd
def execAndIzy (b : Byte) (s : State) : Result := progAndIzy.run [b] s

/-- AND, `zpx`, opcode 35 (R607). -/
def progAndZpx : Program := zpxRead opAnd
def execAndZpx (b : Byte) (s : State) : Result := progAndZpx.run [b] s

/-- AND, `absy`, opcode 39 (R607). -/
def progAndAbsy : Program := absyRead opAnd
def execAndAbsy (w : Word) (s : State) : Result := progAndAbsy.run [loByte w, hiByte w] s

/-- AND, `absx`, opcode 3D (R607). -/
def progAndAbsx : Program := absxRead opAnd
def execAndAbsx (w : Word) (s : State) : Result := progAndAbsx.run [loByte w, hiByte w] s

/-- ORA's operation (R608). -/
def opOra (v : Byte) (c : Cpu) : Cpu := (c.setA (c.a ||| v)).mapP (·.setNZ (c.a ||| v))

/-- ORA, `izx`, opcode 01 (R608). -/
def progOraIzx : Program := izxRead opOra
def execOraIzx (b : Byte) (s : State) : Result := progOraIzx.run [b] s

/-- ORA, `zp`, opcode 05 (R608). -/
def progOraZp : Program := zpRead opOra
def execOraZp (b : Byte) (s : State) : Result := progOraZp.run [b] s

/-- ORA, `imm`, opcode 09 (R608). -/
def progOraImm : Program := immRead opOra
def execOraImm (b : Byte) (s : State) : Result := progOraImm.run [b] s

/-- ORA, `abs`, opcode 0D (R608). -/
def progOraAbs : Program := absRead opOra
def execOraAbs (w : Word) (s : State) : Result := progOraAbs.run [loByte w, hiByte w] s

/-- ORA, `izy`, opcode 11 (R608). -/
def progOraIzy : Program := izyRead opOra
def execOraIzy (b : Byte) (s : State) : Result := progOraIzy.run [b] s

/-- ORA, `zpx`, opcode 15 (R608). -/
def progOraZpx : Program := zpxRead opOra
def execOraZpx (b : Byte) (s : State) : Result := progOraZpx.run [b] s

/-- ORA, `absy`, opcode 19 (R608). -/
def progOraAbsy : Program := absyRead opOra
def execOraAbsy (w : Word) (s : State) : Result := progOraAbsy.run [loByte w, hiByte w] s

/-- ORA, `absx`, opcode 1D (R608). -/
def progOraAbsx : Program := absxRead opOra
def execOraAbsx (w : Word) (s : State) : Result := progOraAbsx.run [loByte w, hiByte w] s

/-- EOR's operation (R609). -/
def opEor (v : Byte) (c : Cpu) : Cpu := (c.setA (c.a ^^^ v)).mapP (·.setNZ (c.a ^^^ v))

/-- EOR, `izx`, opcode 41 (R609). -/
def progEorIzx : Program := izxRead opEor
def execEorIzx (b : Byte) (s : State) : Result := progEorIzx.run [b] s

/-- EOR, `zp`, opcode 45 (R609). -/
def progEorZp : Program := zpRead opEor
def execEorZp (b : Byte) (s : State) : Result := progEorZp.run [b] s

/-- EOR, `imm`, opcode 49 (R609). -/
def progEorImm : Program := immRead opEor
def execEorImm (b : Byte) (s : State) : Result := progEorImm.run [b] s

/-- EOR, `abs`, opcode 4D (R609). -/
def progEorAbs : Program := absRead opEor
def execEorAbs (w : Word) (s : State) : Result := progEorAbs.run [loByte w, hiByte w] s

/-- EOR, `izy`, opcode 51 (R609). -/
def progEorIzy : Program := izyRead opEor
def execEorIzy (b : Byte) (s : State) : Result := progEorIzy.run [b] s

/-- EOR, `zpx`, opcode 55 (R609). -/
def progEorZpx : Program := zpxRead opEor
def execEorZpx (b : Byte) (s : State) : Result := progEorZpx.run [b] s

/-- EOR, `absy`, opcode 59 (R609). -/
def progEorAbsy : Program := absyRead opEor
def execEorAbsy (w : Word) (s : State) : Result := progEorAbsy.run [loByte w, hiByte w] s

/-- EOR, `absx`, opcode 5D (R609). -/
def progEorAbsx : Program := absxRead opEor
def execEorAbsx (w : Word) (s : State) : Result := progEorAbsx.run [loByte w, hiByte w] s

/-- BIT's operation (R610): N and V come from the memory byte. -/
def opBit (v : Byte) (c : Cpu) : Cpu :=
  c.mapP fun p => { p with z := isZero (c.a &&& v), n := v.getLsbD 7, v := v.getLsbD 6 }

/-- BIT, `zp`, opcode 24 (R610). -/
def progBitZp : Program := zpRead opBit
def execBitZp (b : Byte) (s : State) : Result := progBitZp.run [b] s

/-- BIT, `abs`, opcode 2C (R610). -/
def progBitAbs : Program := absRead opBit
def execBitAbs (w : Word) (s : State) : Result := progBitAbs.run [loByte w, hiByte w] s

/-! ## Compare -/

/-- CMP's operation (R612). -/
def opCmp (v : Byte) (c : Cpu) : Cpu := c.mapP (·.compare c.a v)

/-- CMP, `izx`, opcode C1 (R612). -/
def progCmpIzx : Program := izxRead opCmp
def execCmpIzx (b : Byte) (s : State) : Result := progCmpIzx.run [b] s

/-- CMP, `zp`, opcode C5 (R612). -/
def progCmpZp : Program := zpRead opCmp
def execCmpZp (b : Byte) (s : State) : Result := progCmpZp.run [b] s

/-- CMP, `imm`, opcode C9 (R612). -/
def progCmpImm : Program := immRead opCmp
def execCmpImm (b : Byte) (s : State) : Result := progCmpImm.run [b] s

/-- CMP, `abs`, opcode CD (R612). -/
def progCmpAbs : Program := absRead opCmp
def execCmpAbs (w : Word) (s : State) : Result := progCmpAbs.run [loByte w, hiByte w] s

/-- CMP, `izy`, opcode D1 (R612). -/
def progCmpIzy : Program := izyRead opCmp
def execCmpIzy (b : Byte) (s : State) : Result := progCmpIzy.run [b] s

/-- CMP, `zpx`, opcode D5 (R612). -/
def progCmpZpx : Program := zpxRead opCmp
def execCmpZpx (b : Byte) (s : State) : Result := progCmpZpx.run [b] s

/-- CMP, `absy`, opcode D9 (R612). -/
def progCmpAbsy : Program := absyRead opCmp
def execCmpAbsy (w : Word) (s : State) : Result := progCmpAbsy.run [loByte w, hiByte w] s

/-- CMP, `absx`, opcode DD (R612). -/
def progCmpAbsx : Program := absxRead opCmp
def execCmpAbsx (w : Word) (s : State) : Result := progCmpAbsx.run [loByte w, hiByte w] s

/-- CPX's operation (R613). -/
def opCpx (v : Byte) (c : Cpu) : Cpu := c.mapP (·.compare c.x v)

/-- CPX, `imm`, opcode E0 (R613). -/
def progCpxImm : Program := immRead opCpx
def execCpxImm (b : Byte) (s : State) : Result := progCpxImm.run [b] s

/-- CPX, `zp`, opcode E4 (R613). -/
def progCpxZp : Program := zpRead opCpx
def execCpxZp (b : Byte) (s : State) : Result := progCpxZp.run [b] s

/-- CPX, `abs`, opcode EC (R613). -/
def progCpxAbs : Program := absRead opCpx
def execCpxAbs (w : Word) (s : State) : Result := progCpxAbs.run [loByte w, hiByte w] s

/-- CPY's operation (R614). -/
def opCpy (v : Byte) (c : Cpu) : Cpu := c.mapP (·.compare c.y v)

/-- CPY, `imm`, opcode C0 (R614). -/
def progCpyImm : Program := immRead opCpy
def execCpyImm (b : Byte) (s : State) : Result := progCpyImm.run [b] s

/-- CPY, `zp`, opcode C4 (R614). -/
def progCpyZp : Program := zpRead opCpy
def execCpyZp (b : Byte) (s : State) : Result := progCpyZp.run [b] s

/-- CPY, `abs`, opcode CC (R614). -/
def progCpyAbs : Program := absRead opCpy
def execCpyAbs (w : Word) (s : State) : Result := progCpyAbs.run [loByte w, hiByte w] s

/-! ## Increment and decrement -/

/-- The byte INC writes (R615). -/
def newInc (v : Byte) (_ : Cpu) : Byte := v + 1

/-- INC's flags (R615). -/
def opInc (v : Byte) (c : Cpu) : Cpu := c.mapP (·.setNZ (v + 1))

/-- INC, `zp`, opcode E6 (R615). -/
def progIncZp : Program := zpRmw newInc opInc
def execIncZp (b : Byte) (s : State) : Result := progIncZp.run [b] s

/-- INC, `abs`, opcode EE (R615). -/
def progIncAbs : Program := absRmw newInc opInc
def execIncAbs (w : Word) (s : State) : Result := progIncAbs.run [loByte w, hiByte w] s

/-- INC, `zpx`, opcode F6 (R615). -/
def progIncZpx : Program := zpxRmw newInc opInc
def execIncZpx (b : Byte) (s : State) : Result := progIncZpx.run [b] s

/-- INC, `absx`, opcode FE (R615). -/
def progIncAbsx : Program := absxRmw newInc opInc
def execIncAbsx (w : Word) (s : State) : Result := progIncAbsx.run [loByte w, hiByte w] s

/-- The byte DEC writes (R616). -/
def newDec (v : Byte) (_ : Cpu) : Byte := v - 1

/-- DEC's flags (R616). -/
def opDec (v : Byte) (c : Cpu) : Cpu := c.mapP (·.setNZ (v - 1))

/-- DEC, `zp`, opcode C6 (R616). -/
def progDecZp : Program := zpRmw newDec opDec
def execDecZp (b : Byte) (s : State) : Result := progDecZp.run [b] s

/-- DEC, `abs`, opcode CE (R616). -/
def progDecAbs : Program := absRmw newDec opDec
def execDecAbs (w : Word) (s : State) : Result := progDecAbs.run [loByte w, hiByte w] s

/-- DEC, `zpx`, opcode D6 (R616). -/
def progDecZpx : Program := zpxRmw newDec opDec
def execDecZpx (b : Byte) (s : State) : Result := progDecZpx.run [b] s

/-- DEC, `absx`, opcode DE (R616). -/
def progDecAbsx : Program := absxRmw newDec opDec
def execDecAbsx (w : Word) (s : State) : Result := progDecAbsx.run [loByte w, hiByte w] s

/-- INX's operation (R617). -/
def opInx (c : Cpu) : Cpu := (c.setX (c.x + 1)).mapP (·.setNZ (c.x + 1))

/-- INX, `imp`, opcode E8 (R617). -/
def progInx : Program := implied opInx
def execInx (s : State) : Result := progInx.run [] s

/-- INY's operation (R618). -/
def opIny (c : Cpu) : Cpu := (c.setY (c.y + 1)).mapP (·.setNZ (c.y + 1))

/-- INY, `imp`, opcode C8 (R618). -/
def progIny : Program := implied opIny
def execIny (s : State) : Result := progIny.run [] s

/-- DEX's operation (R619). -/
def opDex (c : Cpu) : Cpu := (c.setX (c.x - 1)).mapP (·.setNZ (c.x - 1))

/-- DEX, `imp`, opcode CA (R619). -/
def progDex : Program := implied opDex
def execDex (s : State) : Result := progDex.run [] s

/-- DEY's operation (R620). -/
def opDey (c : Cpu) : Cpu := (c.setY (c.y - 1)).mapP (·.setNZ (c.y - 1))

/-- DEY, `imp`, opcode 88 (R620). -/
def progDey : Program := implied opDey
def execDey (s : State) : Result := progDey.run [] s

/-! ## Shifts and rotates -/

/-- The value with a carry shifted in at bit 0 (R621, R623). -/
def shiftLeft (v : Byte) (c : Bool) : Byte := (v <<< 1) ||| (bitOf c).setWidth 8

/-- The value with a carry shifted in at bit 7 (R622, R624). -/
def shiftRight (v : Byte) (c : Bool) : Byte := (v >>> 1) ||| ((bitOf c).setWidth 8 <<< 7)

/-- The result of ASL (R621). -/
def newAsl (v : Byte) (_ : Cpu) : Byte := shiftLeft v false

/-- The flags of ASL (R621). -/
def opAsl (v : Byte) (c : Cpu) : Cpu := c.mapP (·.setCNZ (v.getLsbD 7) (newAsl v c))

/-- ASL, `zp`, opcode 06 (R621). -/
def progAslZp : Program := zpRmw newAsl opAsl
def execAslZp (b : Byte) (s : State) : Result := progAslZp.run [b] s

/-- ASL, `acc`, opcode 0A (R621). -/
def progAslAcc : Program := accumulator newAsl opAsl
def execAslAcc (s : State) : Result := progAslAcc.run [] s

/-- ASL, `abs`, opcode 0E (R621). -/
def progAslAbs : Program := absRmw newAsl opAsl
def execAslAbs (w : Word) (s : State) : Result := progAslAbs.run [loByte w, hiByte w] s

/-- ASL, `zpx`, opcode 16 (R621). -/
def progAslZpx : Program := zpxRmw newAsl opAsl
def execAslZpx (b : Byte) (s : State) : Result := progAslZpx.run [b] s

/-- ASL, `absx`, opcode 1E (R621). -/
def progAslAbsx : Program := absxRmw newAsl opAsl
def execAslAbsx (w : Word) (s : State) : Result := progAslAbsx.run [loByte w, hiByte w] s

/-- The result of LSR (R622). -/
def newLsr (v : Byte) (_ : Cpu) : Byte := shiftRight v false

/-- The flags of LSR (R622). -/
def opLsr (v : Byte) (c : Cpu) : Cpu := c.mapP (·.setCNZ (v.getLsbD 0) (newLsr v c))

/-- LSR, `zp`, opcode 46 (R622). -/
def progLsrZp : Program := zpRmw newLsr opLsr
def execLsrZp (b : Byte) (s : State) : Result := progLsrZp.run [b] s

/-- LSR, `acc`, opcode 4A (R622). -/
def progLsrAcc : Program := accumulator newLsr opLsr
def execLsrAcc (s : State) : Result := progLsrAcc.run [] s

/-- LSR, `abs`, opcode 4E (R622). -/
def progLsrAbs : Program := absRmw newLsr opLsr
def execLsrAbs (w : Word) (s : State) : Result := progLsrAbs.run [loByte w, hiByte w] s

/-- LSR, `zpx`, opcode 56 (R622). -/
def progLsrZpx : Program := zpxRmw newLsr opLsr
def execLsrZpx (b : Byte) (s : State) : Result := progLsrZpx.run [b] s

/-- LSR, `absx`, opcode 5E (R622). -/
def progLsrAbsx : Program := absxRmw newLsr opLsr
def execLsrAbsx (w : Word) (s : State) : Result := progLsrAbsx.run [loByte w, hiByte w] s

/-- The result of ROL (R623). -/
def newRol (v : Byte) (c : Cpu) : Byte := shiftLeft v c.p.c

/-- The flags of ROL (R623). -/
def opRol (v : Byte) (c : Cpu) : Cpu := c.mapP (·.setCNZ (v.getLsbD 7) (newRol v c))

/-- ROL, `zp`, opcode 26 (R623). -/
def progRolZp : Program := zpRmw newRol opRol
def execRolZp (b : Byte) (s : State) : Result := progRolZp.run [b] s

/-- ROL, `acc`, opcode 2A (R623). -/
def progRolAcc : Program := accumulator newRol opRol
def execRolAcc (s : State) : Result := progRolAcc.run [] s

/-- ROL, `abs`, opcode 2E (R623). -/
def progRolAbs : Program := absRmw newRol opRol
def execRolAbs (w : Word) (s : State) : Result := progRolAbs.run [loByte w, hiByte w] s

/-- ROL, `zpx`, opcode 36 (R623). -/
def progRolZpx : Program := zpxRmw newRol opRol
def execRolZpx (b : Byte) (s : State) : Result := progRolZpx.run [b] s

/-- ROL, `absx`, opcode 3E (R623). -/
def progRolAbsx : Program := absxRmw newRol opRol
def execRolAbsx (w : Word) (s : State) : Result := progRolAbsx.run [loByte w, hiByte w] s

/-- The result of ROR (R624). -/
def newRor (v : Byte) (c : Cpu) : Byte := shiftRight v c.p.c

/-- The flags of ROR (R624). -/
def opRor (v : Byte) (c : Cpu) : Cpu := c.mapP (·.setCNZ (v.getLsbD 0) (newRor v c))

/-- ROR, `zp`, opcode 66 (R624). -/
def progRorZp : Program := zpRmw newRor opRor
def execRorZp (b : Byte) (s : State) : Result := progRorZp.run [b] s

/-- ROR, `acc`, opcode 6A (R624). -/
def progRorAcc : Program := accumulator newRor opRor
def execRorAcc (s : State) : Result := progRorAcc.run [] s

/-- ROR, `abs`, opcode 6E (R624). -/
def progRorAbs : Program := absRmw newRor opRor
def execRorAbs (w : Word) (s : State) : Result := progRorAbs.run [loByte w, hiByte w] s

/-- ROR, `zpx`, opcode 76 (R624). -/
def progRorZpx : Program := zpxRmw newRor opRor
def execRorZpx (b : Byte) (s : State) : Result := progRorZpx.run [b] s

/-- ROR, `absx`, opcode 7E (R624). -/
def progRorAbsx : Program := absxRmw newRor opRor
def execRorAbsx (w : Word) (s : State) : Result := progRorAbsx.run [loByte w, hiByte w] s

end Sys2Proof.Machine
end

