-- ==== Sys2Proof/Machine/Undocumented.lean ====
section
/-! DEFINITION. The undocumented opcodes (file 44): combined effects, NOPs and the fallback class. -/

namespace Sys2Proof.Machine

/-! ## Read-modify-write combinations: the second operation acts on A at the end of the last cycle -/

/-- The byte SLO writes (R801). -/
def newSlo (v : Byte) (c : Cpu) : Byte := newAsl v c

/-- What SLO does to the registers (R801). -/
def opSlo (v : Byte) (c : Cpu) : Cpu :=
  (c.setA (c.a ||| newAsl v c)).mapP (·.setCNZ (v.getLsbD 7) (c.a ||| newAsl v c))

/-- SLO, `izx`, opcode 03 (R801). -/
def progSloIzx : Program := izxRmw newSlo opSlo
def execSloIzx (b : Byte) (s : State) : Result := progSloIzx.run [b] s

/-- SLO, `zp`, opcode 07 (R801). -/
def progSloZp : Program := zpRmw newSlo opSlo
def execSloZp (b : Byte) (s : State) : Result := progSloZp.run [b] s

/-- SLO, `abs`, opcode 0F (R801). -/
def progSloAbs : Program := absRmw newSlo opSlo
def execSloAbs (w : Word) (s : State) : Result := progSloAbs.run [loByte w, hiByte w] s

/-- SLO, `izy`, opcode 13 (R801). -/
def progSloIzy : Program := izyRmw newSlo opSlo
def execSloIzy (b : Byte) (s : State) : Result := progSloIzy.run [b] s

/-- SLO, `zpx`, opcode 17 (R801). -/
def progSloZpx : Program := zpxRmw newSlo opSlo
def execSloZpx (b : Byte) (s : State) : Result := progSloZpx.run [b] s

/-- SLO, `absy`, opcode 1B (R801). -/
def progSloAbsy : Program := absyRmw newSlo opSlo
def execSloAbsy (w : Word) (s : State) : Result := progSloAbsy.run [loByte w, hiByte w] s

/-- SLO, `absx`, opcode 1F (R801). -/
def progSloAbsx : Program := absxRmw newSlo opSlo
def execSloAbsx (w : Word) (s : State) : Result := progSloAbsx.run [loByte w, hiByte w] s

/-- The byte RLA writes (R802). -/
def newRla (v : Byte) (c : Cpu) : Byte := newRol v c

/-- What RLA does to the registers (R802). -/
def opRla (v : Byte) (c : Cpu) : Cpu :=
  (c.setA (c.a &&& newRol v c)).mapP (·.setCNZ (v.getLsbD 7) (c.a &&& newRol v c))

/-- RLA, `izx`, opcode 23 (R802). -/
def progRlaIzx : Program := izxRmw newRla opRla
def execRlaIzx (b : Byte) (s : State) : Result := progRlaIzx.run [b] s

/-- RLA, `zp`, opcode 27 (R802). -/
def progRlaZp : Program := zpRmw newRla opRla
def execRlaZp (b : Byte) (s : State) : Result := progRlaZp.run [b] s

/-- RLA, `abs`, opcode 2F (R802). -/
def progRlaAbs : Program := absRmw newRla opRla
def execRlaAbs (w : Word) (s : State) : Result := progRlaAbs.run [loByte w, hiByte w] s

/-- RLA, `izy`, opcode 33 (R802). -/
def progRlaIzy : Program := izyRmw newRla opRla
def execRlaIzy (b : Byte) (s : State) : Result := progRlaIzy.run [b] s

/-- RLA, `zpx`, opcode 37 (R802). -/
def progRlaZpx : Program := zpxRmw newRla opRla
def execRlaZpx (b : Byte) (s : State) : Result := progRlaZpx.run [b] s

/-- RLA, `absy`, opcode 3B (R802). -/
def progRlaAbsy : Program := absyRmw newRla opRla
def execRlaAbsy (w : Word) (s : State) : Result := progRlaAbsy.run [loByte w, hiByte w] s

/-- RLA, `absx`, opcode 3F (R802). -/
def progRlaAbsx : Program := absxRmw newRla opRla
def execRlaAbsx (w : Word) (s : State) : Result := progRlaAbsx.run [loByte w, hiByte w] s

/-- The byte SRE writes (R803). -/
def newSre (v : Byte) (c : Cpu) : Byte := newLsr v c

/-- What SRE does to the registers (R803). -/
def opSre (v : Byte) (c : Cpu) : Cpu :=
  (c.setA (c.a ^^^ newLsr v c)).mapP (·.setCNZ (v.getLsbD 0) (c.a ^^^ newLsr v c))

/-- SRE, `izx`, opcode 43 (R803). -/
def progSreIzx : Program := izxRmw newSre opSre
def execSreIzx (b : Byte) (s : State) : Result := progSreIzx.run [b] s

/-- SRE, `zp`, opcode 47 (R803). -/
def progSreZp : Program := zpRmw newSre opSre
def execSreZp (b : Byte) (s : State) : Result := progSreZp.run [b] s

/-- SRE, `abs`, opcode 4F (R803). -/
def progSreAbs : Program := absRmw newSre opSre
def execSreAbs (w : Word) (s : State) : Result := progSreAbs.run [loByte w, hiByte w] s

/-- SRE, `izy`, opcode 53 (R803). -/
def progSreIzy : Program := izyRmw newSre opSre
def execSreIzy (b : Byte) (s : State) : Result := progSreIzy.run [b] s

/-- SRE, `zpx`, opcode 57 (R803). -/
def progSreZpx : Program := zpxRmw newSre opSre
def execSreZpx (b : Byte) (s : State) : Result := progSreZpx.run [b] s

/-- SRE, `absy`, opcode 5B (R803). -/
def progSreAbsy : Program := absyRmw newSre opSre
def execSreAbsy (w : Word) (s : State) : Result := progSreAbsy.run [loByte w, hiByte w] s

/-- SRE, `absx`, opcode 5F (R803). -/
def progSreAbsx : Program := absxRmw newSre opSre
def execSreAbsx (w : Word) (s : State) : Result := progSreAbsx.run [loByte w, hiByte w] s

/-- The byte RRA writes (R804). -/
def newRra (v : Byte) (c : Cpu) : Byte := newRor v c

/-- What RRA does to the registers (R804). -/
def opRra (v : Byte) (c : Cpu) : Cpu :=
  opAdc (newRor v c) (c.mapP fun p => { p with c := v.getLsbD 0 })

/-- RRA, `izx`, opcode 63 (R804). -/
def progRraIzx : Program := (izxRmw newRra opRra).decimally
def execRraIzx (b : Byte) (s : State) : Result := progRraIzx.run [b] s

/-- RRA, `zp`, opcode 67 (R804). -/
def progRraZp : Program := (zpRmw newRra opRra).decimally
def execRraZp (b : Byte) (s : State) : Result := progRraZp.run [b] s

/-- RRA, `abs`, opcode 6F (R804). -/
def progRraAbs : Program := (absRmw newRra opRra).decimally
def execRraAbs (w : Word) (s : State) : Result := progRraAbs.run [loByte w, hiByte w] s

/-- RRA, `izy`, opcode 73 (R804). -/
def progRraIzy : Program := (izyRmw newRra opRra).decimally
def execRraIzy (b : Byte) (s : State) : Result := progRraIzy.run [b] s

/-- RRA, `zpx`, opcode 77 (R804). -/
def progRraZpx : Program := (zpxRmw newRra opRra).decimally
def execRraZpx (b : Byte) (s : State) : Result := progRraZpx.run [b] s

/-- RRA, `absy`, opcode 7B (R804). -/
def progRraAbsy : Program := (absyRmw newRra opRra).decimally
def execRraAbsy (w : Word) (s : State) : Result := progRraAbsy.run [loByte w, hiByte w] s

/-- RRA, `absx`, opcode 7F (R804). -/
def progRraAbsx : Program := (absxRmw newRra opRra).decimally
def execRraAbsx (w : Word) (s : State) : Result := progRraAbsx.run [loByte w, hiByte w] s

/-- The byte DCP writes (R807). -/
def newDcp (v : Byte) (c : Cpu) : Byte := newDec v c

/-- What DCP does to the registers (R807). -/
def opDcp (v : Byte) (c : Cpu) : Cpu :=
  c.mapP (·.compare c.a (newDec v c))

/-- DCP, `izx`, opcode C3 (R807). -/
def progDcpIzx : Program := izxRmw newDcp opDcp
def execDcpIzx (b : Byte) (s : State) : Result := progDcpIzx.run [b] s

/-- DCP, `zp`, opcode C7 (R807). -/
def progDcpZp : Program := zpRmw newDcp opDcp
def execDcpZp (b : Byte) (s : State) : Result := progDcpZp.run [b] s

/-- DCP, `abs`, opcode CF (R807). -/
def progDcpAbs : Program := absRmw newDcp opDcp
def execDcpAbs (w : Word) (s : State) : Result := progDcpAbs.run [loByte w, hiByte w] s

/-- DCP, `izy`, opcode D3 (R807). -/
def progDcpIzy : Program := izyRmw newDcp opDcp
def execDcpIzy (b : Byte) (s : State) : Result := progDcpIzy.run [b] s

/-- DCP, `zpx`, opcode D7 (R807). -/
def progDcpZpx : Program := zpxRmw newDcp opDcp
def execDcpZpx (b : Byte) (s : State) : Result := progDcpZpx.run [b] s

/-- DCP, `absy`, opcode DB (R807). -/
def progDcpAbsy : Program := absyRmw newDcp opDcp
def execDcpAbsy (w : Word) (s : State) : Result := progDcpAbsy.run [loByte w, hiByte w] s

/-- DCP, `absx`, opcode DF (R807). -/
def progDcpAbsx : Program := absxRmw newDcp opDcp
def execDcpAbsx (w : Word) (s : State) : Result := progDcpAbsx.run [loByte w, hiByte w] s

/-- The byte ISC writes (R808). -/
def newIsc (v : Byte) (c : Cpu) : Byte := newInc v c

/-- What ISC does to the registers (R808). -/
def opIsc (v : Byte) (c : Cpu) : Cpu :=
  opSbc (newInc v c) c

/-- ISC, `izx`, opcode E3 (R808). -/
def progIscIzx : Program := (izxRmw newIsc opIsc).decimally
def execIscIzx (b : Byte) (s : State) : Result := progIscIzx.run [b] s

/-- ISC, `zp`, opcode E7 (R808). -/
def progIscZp : Program := (zpRmw newIsc opIsc).decimally
def execIscZp (b : Byte) (s : State) : Result := progIscZp.run [b] s

/-- ISC, `abs`, opcode EF (R808). -/
def progIscAbs : Program := (absRmw newIsc opIsc).decimally
def execIscAbs (w : Word) (s : State) : Result := progIscAbs.run [loByte w, hiByte w] s

/-- ISC, `izy`, opcode F3 (R808). -/
def progIscIzy : Program := (izyRmw newIsc opIsc).decimally
def execIscIzy (b : Byte) (s : State) : Result := progIscIzy.run [b] s

/-- ISC, `zpx`, opcode F7 (R808). -/
def progIscZpx : Program := (zpxRmw newIsc opIsc).decimally
def execIscZpx (b : Byte) (s : State) : Result := progIscZpx.run [b] s

/-- ISC, `absy`, opcode FB (R808). -/
def progIscAbsy : Program := (absyRmw newIsc opIsc).decimally
def execIscAbsy (w : Word) (s : State) : Result := progIscAbsy.run [loByte w, hiByte w] s

/-- ISC, `absx`, opcode FF (R808). -/
def progIscAbsx : Program := (absxRmw newIsc opIsc).decimally
def execIscAbsx (w : Word) (s : State) : Result := progIscAbsx.run [loByte w, hiByte w] s

/-! ## Combined loads and stores -/

/-- The byte SAX stores (R805). -/
def saxByte (c : Cpu) : Byte := c.a &&& c.x

/-- SAX, `izx`, opcode 83 (R805). -/
def progSaxIzx : Program := izxWrite saxByte
def execSaxIzx (b : Byte) (s : State) : Result := progSaxIzx.run [b] s

/-- SAX, `zp`, opcode 87 (R805). -/
def progSaxZp : Program := zpWrite saxByte
def execSaxZp (b : Byte) (s : State) : Result := progSaxZp.run [b] s

/-- SAX, `abs`, opcode 8F (R805). -/
def progSaxAbs : Program := absWrite saxByte
def execSaxAbs (w : Word) (s : State) : Result := progSaxAbs.run [loByte w, hiByte w] s

/-- SAX, `zpy`, opcode 97 (R805). -/
def progSaxZpy : Program := zpyWrite saxByte
def execSaxZpy (b : Byte) (s : State) : Result := progSaxZpy.run [b] s

/-- LAX's operation (R806). -/
def opLax (v : Byte) (c : Cpu) : Cpu := ((c.setA v).setX v).mapP (·.setNZ v)

/-- LAX, `izx`, opcode A3 (R806). -/
def progLaxIzx : Program := izxRead opLax
def execLaxIzx (b : Byte) (s : State) : Result := progLaxIzx.run [b] s

/-- LAX, `zp`, opcode A7 (R806). -/
def progLaxZp : Program := zpRead opLax
def execLaxZp (b : Byte) (s : State) : Result := progLaxZp.run [b] s

/-- LAX, `abs`, opcode AF (R806). -/
def progLaxAbs : Program := absRead opLax
def execLaxAbs (w : Word) (s : State) : Result := progLaxAbs.run [loByte w, hiByte w] s

/-- LAX, `izy`, opcode B3 (R806). -/
def progLaxIzy : Program := izyRead opLax
def execLaxIzy (b : Byte) (s : State) : Result := progLaxIzy.run [b] s

/-- LAX, `zpy`, opcode B7 (R806). -/
def progLaxZpy : Program := zpyRead opLax
def execLaxZpy (b : Byte) (s : State) : Result := progLaxZpy.run [b] s

/-- LAX, `absy`, opcode BF (R806). -/
def progLaxAbsy : Program := absyRead opLax
def execLaxAbsy (w : Word) (s : State) : Result := progLaxAbsy.run [loByte w, hiByte w] s

/-- LAS's operation (R814). -/
def opLas (v : Byte) (c : Cpu) : Cpu :=
  (((c.setA (v &&& c.s)).setX (v &&& c.s)).setS (v &&& c.s)).mapP (·.setNZ (v &&& c.s))

/-- LAS, `absy`, opcode BB (R814). -/
def progLasAbsy : Program := absyRead opLas
def execLasAbsy (w : Word) (s : State) : Result := progLasAbsy.run [loByte w, hiByte w] s

/-! ## Immediate combinations -/

/-- ANC's operation (R809). -/
def opAnc (v : Byte) (c : Cpu) : Cpu :=
  (c.setA (c.a &&& v)).mapP (·.setCNZ ((c.a &&& v).getLsbD 7) (c.a &&& v))

/-- ANC, `imm`, opcode 0B (R809). -/
def progAnc0B : Program := immRead opAnc
def execAnc0B (b : Byte) (s : State) : Result := progAnc0B.run [b] s

/-- ANC, `imm`, opcode 2B (R809). -/
def progAnc2B : Program := immRead opAnc
def execAnc2B (b : Byte) (s : State) : Result := progAnc2B.run [b] s

/-- ALR's operation (R810). -/
def opAlr (v : Byte) (c : Cpu) : Cpu :=
  (c.setA (shiftRight (c.a &&& v) false)).mapP (·.setCNZ ((c.a &&& v).getLsbD 0) (shiftRight (c.a &&& v) false))

/-- ALR, `imm`, opcode 4B (R810). -/
def progAlrImm : Program := immRead opAlr
def execAlrImm (b : Byte) (s : State) : Result := progAlrImm.run [b] s

/-- ARR's result: `t` of R811 rotated right through the carry. -/
def arrResult (v : Byte) (c : Cpu) : Byte := shiftRight (c.a &&& v) c.p.c

/-- ARR's operation, binary in every mode (R811). -/
def opArr (v : Byte) (c : Cpu) : Cpu :=
  (c.setA (arrResult v c)).mapP fun p =>
    { p.setCNZ ((arrResult v c).getLsbD 6) (arrResult v c) with
      v := (arrResult v c).getLsbD 6 != (arrResult v c).getLsbD 5 }

/-- ARR, `imm`, opcode 6B (R811). -/
def progArrImm : Program := immRead opArr
def execArrImm (b : Byte) (s : State) : Result := progArrImm.run [b] s

/-- SBX's operation (R812): no borrow in, D ignored. -/
def opSbx (v : Byte) (c : Cpu) : Cpu :=
  (c.setX ((c.a &&& c.x) - v)).mapP (·.setCNZ (decide (v.toNat ≤ (c.a &&& c.x).toNat)) ((c.a &&& c.x) - v))

/-- SBX, `imm`, opcode CB (R812). -/
def progSbxImm : Program := immRead opSbx
def execSbxImm (b : Byte) (s : State) : Result := progSbxImm.run [b] s

/-- USBC, `imm`, opcode EB (R813). -/
def progUsbcImm : Program := (immRead opSbc).decimally
def execUsbcImm (b : Byte) (s : State) : Result := progUsbcImm.run [b] s

/-! ## Undocumented NOPs (R815): the mode's accesses, with an empty operation -/

/-- The empty operation on a value read (R815). -/
def opNop (_ : Byte) (c : Cpu) : Cpu := c

/-- NOP, `zp`, opcode 04 (R815). -/
def progNopZp04 : Program := zpRead opNop
def execNopZp04 (b : Byte) (s : State) : Result := progNopZp04.run [b] s

/-- NOP, `abs`, opcode 0C (R815). -/
def progNopAbs : Program := absRead opNop
def execNopAbs (w : Word) (s : State) : Result := progNopAbs.run [loByte w, hiByte w] s

/-- NOP, `zpx`, opcode 14 (R815). -/
def progNopZpx14 : Program := zpxRead opNop
def execNopZpx14 (b : Byte) (s : State) : Result := progNopZpx14.run [b] s

/-- NOP, `imp`, opcode 1A (R815). -/
def progNopImp1A : Program := implied id
def execNopImp1A (s : State) : Result := progNopImp1A.run [] s

/-- NOP, `absx`, opcode 1C (R815). -/
def progNopAbsx1C : Program := absxRead opNop
def execNopAbsx1C (w : Word) (s : State) : Result := progNopAbsx1C.run [loByte w, hiByte w] s

/-- NOP, `zpx`, opcode 34 (R815). -/
def progNopZpx34 : Program := zpxRead opNop
def execNopZpx34 (b : Byte) (s : State) : Result := progNopZpx34.run [b] s

/-- NOP, `imp`, opcode 3A (R815). -/
def progNopImp3A : Program := implied id
def execNopImp3A (s : State) : Result := progNopImp3A.run [] s

/-- NOP, `absx`, opcode 3C (R815). -/
def progNopAbsx3C : Program := absxRead opNop
def execNopAbsx3C (w : Word) (s : State) : Result := progNopAbsx3C.run [loByte w, hiByte w] s

/-- NOP, `zp`, opcode 44 (R815). -/
def progNopZp44 : Program := zpRead opNop
def execNopZp44 (b : Byte) (s : State) : Result := progNopZp44.run [b] s

/-- NOP, `zpx`, opcode 54 (R815). -/
def progNopZpx54 : Program := zpxRead opNop
def execNopZpx54 (b : Byte) (s : State) : Result := progNopZpx54.run [b] s

/-- NOP, `imp`, opcode 5A (R815). -/
def progNopImp5A : Program := implied id
def execNopImp5A (s : State) : Result := progNopImp5A.run [] s

/-- NOP, `absx`, opcode 5C (R815). -/
def progNopAbsx5C : Program := absxRead opNop
def execNopAbsx5C (w : Word) (s : State) : Result := progNopAbsx5C.run [loByte w, hiByte w] s

/-- NOP, `zp`, opcode 64 (R815). -/
def progNopZp64 : Program := zpRead opNop
def execNopZp64 (b : Byte) (s : State) : Result := progNopZp64.run [b] s

/-- NOP, `zpx`, opcode 74 (R815). -/
def progNopZpx74 : Program := zpxRead opNop
def execNopZpx74 (b : Byte) (s : State) : Result := progNopZpx74.run [b] s

/-- NOP, `imp`, opcode 7A (R815). -/
def progNopImp7A : Program := implied id
def execNopImp7A (s : State) : Result := progNopImp7A.run [] s

/-- NOP, `absx`, opcode 7C (R815). -/
def progNopAbsx7C : Program := absxRead opNop
def execNopAbsx7C (w : Word) (s : State) : Result := progNopAbsx7C.run [loByte w, hiByte w] s

/-- NOP, `imm`, opcode 80 (R815). -/
def progNopImm80 : Program := immRead opNop
def execNopImm80 (b : Byte) (s : State) : Result := progNopImm80.run [b] s

/-- NOP, `imm`, opcode 82 (R815). -/
def progNopImm82 : Program := immRead opNop
def execNopImm82 (b : Byte) (s : State) : Result := progNopImm82.run [b] s

/-- NOP, `imm`, opcode 89 (R815). -/
def progNopImm89 : Program := immRead opNop
def execNopImm89 (b : Byte) (s : State) : Result := progNopImm89.run [b] s

/-- NOP, `imm`, opcode C2 (R815). -/
def progNopImmC2 : Program := immRead opNop
def execNopImmC2 (b : Byte) (s : State) : Result := progNopImmC2.run [b] s

/-- NOP, `zpx`, opcode D4 (R815). -/
def progNopZpxD4 : Program := zpxRead opNop
def execNopZpxD4 (b : Byte) (s : State) : Result := progNopZpxD4.run [b] s

/-- NOP, `imp`, opcode DA (R815). -/
def progNopImpDA : Program := implied id
def execNopImpDA (s : State) : Result := progNopImpDA.run [] s

/-- NOP, `absx`, opcode DC (R815). -/
def progNopAbsxDC : Program := absxRead opNop
def execNopAbsxDC (w : Word) (s : State) : Result := progNopAbsxDC.run [loByte w, hiByte w] s

/-- NOP, `imm`, opcode E2 (R815). -/
def progNopImmE2 : Program := immRead opNop
def execNopImmE2 (b : Byte) (s : State) : Result := progNopImmE2.run [b] s

/-- NOP, `zpx`, opcode F4 (R815). -/
def progNopZpxF4 : Program := zpxRead opNop
def execNopZpxF4 (b : Byte) (s : State) : Result := progNopZpxF4.run [b] s

/-- NOP, `imp`, opcode FA (R815). -/
def progNopImpFA : Program := implied id
def execNopImpFA (s : State) : Result := progNopImpFA.run [] s

/-- NOP, `absx`, opcode FC (R815). -/
def progNopAbsxFC : Program := absxRead opNop
def execNopAbsxFC (w : Word) (s : State) : Result := progNopAbsxFC.run [loByte w, hiByte w] s

/-! ## The fallback class (R820) -/

/-- JAM, `imp`, opcode 02 (R821). -/
def progJam02 : Program := fallback 0x02 1 2
def execJam02 (s : State) : Result := progJam02.run [] s

/-- JAM, `imp`, opcode 12 (R821). -/
def progJam12 : Program := fallback 0x12 1 2
def execJam12 (s : State) : Result := progJam12.run [] s

/-- JAM, `imp`, opcode 22 (R821). -/
def progJam22 : Program := fallback 0x22 1 2
def execJam22 (s : State) : Result := progJam22.run [] s

/-- JAM, `imp`, opcode 32 (R821). -/
def progJam32 : Program := fallback 0x32 1 2
def execJam32 (s : State) : Result := progJam32.run [] s

/-- JAM, `imp`, opcode 42 (R821). -/
def progJam42 : Program := fallback 0x42 1 2
def execJam42 (s : State) : Result := progJam42.run [] s

/-- JAM, `imp`, opcode 52 (R821). -/
def progJam52 : Program := fallback 0x52 1 2
def execJam52 (s : State) : Result := progJam52.run [] s

/-- JAM, `imp`, opcode 62 (R821). -/
def progJam62 : Program := fallback 0x62 1 2
def execJam62 (s : State) : Result := progJam62.run [] s

/-- JAM, `imp`, opcode 72 (R821). -/
def progJam72 : Program := fallback 0x72 1 2
def execJam72 (s : State) : Result := progJam72.run [] s

/-- ANE, `imm`, opcode 8B (R822). -/
def progAneImm : Program := fallback 0x8B 2 2
def execAneImm (b : Byte) (s : State) : Result := progAneImm.run [b] s

/-- JAM, `imp`, opcode 92 (R821). -/
def progJam92 : Program := fallback 0x92 1 2
def execJam92 (s : State) : Result := progJam92.run [] s

/-- SHA, `izy`, opcode 93 (R824). -/
def progShaIzy : Program := fallback 0x93 2 6
def execShaIzy (b : Byte) (s : State) : Result := progShaIzy.run [b] s

/-- TAS, `absy`, opcode 9B (R827). -/
def progTasAbsy : Program := fallback 0x9B 3 5
def execTasAbsy (w : Word) (s : State) : Result := progTasAbsy.run [loByte w, hiByte w] s

/-- SHY, `absx`, opcode 9C (R826). -/
def progShyAbsx : Program := fallback 0x9C 3 5
def execShyAbsx (w : Word) (s : State) : Result := progShyAbsx.run [loByte w, hiByte w] s

/-- SHX, `absy`, opcode 9E (R825). -/
def progShxAbsy : Program := fallback 0x9E 3 5
def execShxAbsy (w : Word) (s : State) : Result := progShxAbsy.run [loByte w, hiByte w] s

/-- SHA, `absy`, opcode 9F (R824). -/
def progShaAbsy : Program := fallback 0x9F 3 5
def execShaAbsy (w : Word) (s : State) : Result := progShaAbsy.run [loByte w, hiByte w] s

/-- LXA, `imm`, opcode AB (R823). -/
def progLxaImm : Program := fallback 0xAB 2 2
def execLxaImm (b : Byte) (s : State) : Result := progLxaImm.run [b] s

/-- JAM, `imp`, opcode B2 (R821). -/
def progJamB2 : Program := fallback 0xB2 1 2
def execJamB2 (s : State) : Result := progJamB2.run [] s

/-- JAM, `imp`, opcode D2 (R821). -/
def progJamD2 : Program := fallback 0xD2 1 2
def execJamD2 (s : State) : Result := progJamD2.run [] s

/-- JAM, `imp`, opcode F2 (R821). -/
def progJamF2 : Program := fallback 0xF2 1 2
def execJamF2 (s : State) : Result := progJamF2.run [] s

end Sys2Proof.Machine
end

