-- ==== Sys2Proof/Machine/Programs.lean ====
section
/-! DEFINITION. The cycle program of each instruction, as the one-cycle-at-a-time machine looks it up (R401, R402);
the meanings of Dispatch.lean run the same programs. -/

namespace Sys2Proof.Machine

/-- The cycle program an instruction selects; its operand does not select it. -/
def programOf : Instr → Program
  | .brk _ => progBrk
  | .oraIzx _ => progOraIzx
  | .jam02 => progJam02
  | .sloIzx _ => progSloIzx
  | .nopZp04 _ => progNopZp04
  | .oraZp _ => progOraZp
  | .aslZp _ => progAslZp
  | .sloZp _ => progSloZp
  | .php => progPhp
  | .oraImm _ => progOraImm
  | .aslAcc => progAslAcc
  | .anc0B _ => progAnc0B
  | .nopAbs _ => progNopAbs
  | .oraAbs _ => progOraAbs
  | .aslAbs _ => progAslAbs
  | .sloAbs _ => progSloAbs
  | .bpl _ => progBpl
  | .oraIzy _ => progOraIzy
  | .jam12 => progJam12
  | .sloIzy _ => progSloIzy
  | .nopZpx14 _ => progNopZpx14
  | .oraZpx _ => progOraZpx
  | .aslZpx _ => progAslZpx
  | .sloZpx _ => progSloZpx
  | .clc => progClc
  | .oraAbsy _ => progOraAbsy
  | .nopImp1A => progNopImp1A
  | .sloAbsy _ => progSloAbsy
  | .nopAbsx1C _ => progNopAbsx1C
  | .oraAbsx _ => progOraAbsx
  | .aslAbsx _ => progAslAbsx
  | .sloAbsx _ => progSloAbsx
  | .jsrAbs _ => progJsrAbs
  | .andIzx _ => progAndIzx
  | .jam22 => progJam22
  | .rlaIzx _ => progRlaIzx
  | .bitZp _ => progBitZp
  | .andZp _ => progAndZp
  | .rolZp _ => progRolZp
  | .rlaZp _ => progRlaZp
  | .plp => progPlp
  | .andImm _ => progAndImm
  | .rolAcc => progRolAcc
  | .anc2B _ => progAnc2B
  | .bitAbs _ => progBitAbs
  | .andAbs _ => progAndAbs
  | .rolAbs _ => progRolAbs
  | .rlaAbs _ => progRlaAbs
  | .bmi _ => progBmi
  | .andIzy _ => progAndIzy
  | .jam32 => progJam32
  | .rlaIzy _ => progRlaIzy
  | .nopZpx34 _ => progNopZpx34
  | .andZpx _ => progAndZpx
  | .rolZpx _ => progRolZpx
  | .rlaZpx _ => progRlaZpx
  | .sec => progSec
  | .andAbsy _ => progAndAbsy
  | .nopImp3A => progNopImp3A
  | .rlaAbsy _ => progRlaAbsy
  | .nopAbsx3C _ => progNopAbsx3C
  | .andAbsx _ => progAndAbsx
  | .rolAbsx _ => progRolAbsx
  | .rlaAbsx _ => progRlaAbsx
  | .rti => progRti
  | .eorIzx _ => progEorIzx
  | .jam42 => progJam42
  | .sreIzx _ => progSreIzx
  | .nopZp44 _ => progNopZp44
  | .eorZp _ => progEorZp
  | .lsrZp _ => progLsrZp
  | .sreZp _ => progSreZp
  | .pha => progPha
  | .eorImm _ => progEorImm
  | .lsrAcc => progLsrAcc
  | .alrImm _ => progAlrImm
  | .jmpAbs _ => progJmpAbs
  | .eorAbs _ => progEorAbs
  | .lsrAbs _ => progLsrAbs
  | .sreAbs _ => progSreAbs
  | .bvc _ => progBvc
  | .eorIzy _ => progEorIzy
  | .jam52 => progJam52
  | .sreIzy _ => progSreIzy
  | .nopZpx54 _ => progNopZpx54
  | .eorZpx _ => progEorZpx
  | .lsrZpx _ => progLsrZpx
  | .sreZpx _ => progSreZpx
  | .cli => progCli
  | .eorAbsy _ => progEorAbsy
  | .nopImp5A => progNopImp5A
  | .sreAbsy _ => progSreAbsy
  | .nopAbsx5C _ => progNopAbsx5C
  | .eorAbsx _ => progEorAbsx
  | .lsrAbsx _ => progLsrAbsx
  | .sreAbsx _ => progSreAbsx
  | .rts => progRts
  | .adcIzx _ => progAdcIzx
  | .jam62 => progJam62
  | .rraIzx _ => progRraIzx
  | .nopZp64 _ => progNopZp64
  | .adcZp _ => progAdcZp
  | .rorZp _ => progRorZp
  | .rraZp _ => progRraZp
  | .pla => progPla
  | .adcImm _ => progAdcImm
  | .rorAcc => progRorAcc
  | .arrImm _ => progArrImm
  | .jmpInd _ => progJmpInd
  | .adcAbs _ => progAdcAbs
  | .rorAbs _ => progRorAbs
  | .rraAbs _ => progRraAbs
  | .bvs _ => progBvs
  | .adcIzy _ => progAdcIzy
  | .jam72 => progJam72
  | .rraIzy _ => progRraIzy
  | .nopZpx74 _ => progNopZpx74
  | .adcZpx _ => progAdcZpx
  | .rorZpx _ => progRorZpx
  | .rraZpx _ => progRraZpx
  | .sei => progSei
  | .adcAbsy _ => progAdcAbsy
  | .nopImp7A => progNopImp7A
  | .rraAbsy _ => progRraAbsy
  | .nopAbsx7C _ => progNopAbsx7C
  | .adcAbsx _ => progAdcAbsx
  | .rorAbsx _ => progRorAbsx
  | .rraAbsx _ => progRraAbsx
  | .nopImm80 _ => progNopImm80
  | .staIzx _ => progStaIzx
  | .nopImm82 _ => progNopImm82
  | .saxIzx _ => progSaxIzx
  | .styZp _ => progStyZp
  | .staZp _ => progStaZp
  | .stxZp _ => progStxZp
  | .saxZp _ => progSaxZp
  | .dey => progDey
  | .nopImm89 _ => progNopImm89
  | .txa => progTxa
  | .aneImm _ => progAneImm
  | .styAbs _ => progStyAbs
  | .staAbs _ => progStaAbs
  | .stxAbs _ => progStxAbs
  | .saxAbs _ => progSaxAbs
  | .bcc _ => progBcc
  | .staIzy _ => progStaIzy
  | .jam92 => progJam92
  | .shaIzy _ => progShaIzy
  | .styZpx _ => progStyZpx
  | .staZpx _ => progStaZpx
  | .stxZpy _ => progStxZpy
  | .saxZpy _ => progSaxZpy
  | .tya => progTya
  | .staAbsy _ => progStaAbsy
  | .txs => progTxs
  | .tasAbsy _ => progTasAbsy
  | .shyAbsx _ => progShyAbsx
  | .staAbsx _ => progStaAbsx
  | .shxAbsy _ => progShxAbsy
  | .shaAbsy _ => progShaAbsy
  | .ldyImm _ => progLdyImm
  | .ldaIzx _ => progLdaIzx
  | .ldxImm _ => progLdxImm
  | .laxIzx _ => progLaxIzx
  | .ldyZp _ => progLdyZp
  | .ldaZp _ => progLdaZp
  | .ldxZp _ => progLdxZp
  | .laxZp _ => progLaxZp
  | .tay => progTay
  | .ldaImm _ => progLdaImm
  | .tax => progTax
  | .lxaImm _ => progLxaImm
  | .ldyAbs _ => progLdyAbs
  | .ldaAbs _ => progLdaAbs
  | .ldxAbs _ => progLdxAbs
  | .laxAbs _ => progLaxAbs
  | .bcs _ => progBcs
  | .ldaIzy _ => progLdaIzy
  | .jamB2 => progJamB2
  | .laxIzy _ => progLaxIzy
  | .ldyZpx _ => progLdyZpx
  | .ldaZpx _ => progLdaZpx
  | .ldxZpy _ => progLdxZpy
  | .laxZpy _ => progLaxZpy
  | .clv => progClv
  | .ldaAbsy _ => progLdaAbsy
  | .tsx => progTsx
  | .lasAbsy _ => progLasAbsy
  | .ldyAbsx _ => progLdyAbsx
  | .ldaAbsx _ => progLdaAbsx
  | .ldxAbsy _ => progLdxAbsy
  | .laxAbsy _ => progLaxAbsy
  | .cpyImm _ => progCpyImm
  | .cmpIzx _ => progCmpIzx
  | .nopImmC2 _ => progNopImmC2
  | .dcpIzx _ => progDcpIzx
  | .cpyZp _ => progCpyZp
  | .cmpZp _ => progCmpZp
  | .decZp _ => progDecZp
  | .dcpZp _ => progDcpZp
  | .iny => progIny
  | .cmpImm _ => progCmpImm
  | .dex => progDex
  | .sbxImm _ => progSbxImm
  | .cpyAbs _ => progCpyAbs
  | .cmpAbs _ => progCmpAbs
  | .decAbs _ => progDecAbs
  | .dcpAbs _ => progDcpAbs
  | .bne _ => progBne
  | .cmpIzy _ => progCmpIzy
  | .jamD2 => progJamD2
  | .dcpIzy _ => progDcpIzy
  | .nopZpxD4 _ => progNopZpxD4
  | .cmpZpx _ => progCmpZpx
  | .decZpx _ => progDecZpx
  | .dcpZpx _ => progDcpZpx
  | .cld => progCld
  | .cmpAbsy _ => progCmpAbsy
  | .nopImpDA => progNopImpDA
  | .dcpAbsy _ => progDcpAbsy
  | .nopAbsxDC _ => progNopAbsxDC
  | .cmpAbsx _ => progCmpAbsx
  | .decAbsx _ => progDecAbsx
  | .dcpAbsx _ => progDcpAbsx
  | .cpxImm _ => progCpxImm
  | .sbcIzx _ => progSbcIzx
  | .nopImmE2 _ => progNopImmE2
  | .iscIzx _ => progIscIzx
  | .cpxZp _ => progCpxZp
  | .sbcZp _ => progSbcZp
  | .incZp _ => progIncZp
  | .iscZp _ => progIscZp
  | .inx => progInx
  | .sbcImm _ => progSbcImm
  | .nop => progNop
  | .usbcImm _ => progUsbcImm
  | .cpxAbs _ => progCpxAbs
  | .sbcAbs _ => progSbcAbs
  | .incAbs _ => progIncAbs
  | .iscAbs _ => progIscAbs
  | .beq _ => progBeq
  | .sbcIzy _ => progSbcIzy
  | .jamF2 => progJamF2
  | .iscIzy _ => progIscIzy
  | .nopZpxF4 _ => progNopZpxF4
  | .sbcZpx _ => progSbcZpx
  | .incZpx _ => progIncZpx
  | .iscZpx _ => progIscZpx
  | .sed => progSed
  | .sbcAbsy _ => progSbcAbsy
  | .nopImpFA => progNopImpFA
  | .iscAbsy _ => progIscAbsy
  | .nopAbsxFC _ => progNopAbsxFC
  | .sbcAbsx _ => progSbcAbsx
  | .incAbsx _ => progIncAbsx
  | .iscAbsx _ => progIscAbsx

/-- The cycle program an opcode byte selects (R402). -/
def programAt (op : Byte) : Program := programOf (instrAt op 0 0)

end Sys2Proof.Machine
end

