-- ==== Sys2Proof/Machine/Cycle.lean ====
section
/-! DEFINITION. The machine one master tick at a time (R400, R401, R1110, R1121): what the CPU does in one
activation, as a resumable state machine over `phase` and `cycle` (R107). The whole-instruction `step` of Step.lean
runs the same cycles (log 8). -/

namespace Sys2Proof.Machine

/-- T1 of an instruction: the opcode fetch (R401). -/
def fetchOpcode : Cycle := readCycle Cpu.pc fun b c => (c.incPc.setOpcode b).setPhase .execute

/-- The operand fetches of a program (R401). -/
def Program.fetches (p : Program) : List Cycle := p.operands.map operandCycle

/-- The cycles `T2 .. Tn` of a program, all its conditional ones included (R401). -/
def Program.cycles (p : Program) : List Cycle := p.fetches ++ p.body

/-- Whether an instruction ends when `n` of its cycles after T1 are done: its list is finished, or the last cycle
says so (`ended`), or its operands are fetched and the rest is skipped. -/
def Program.endsAfter (p : Program) (n : Nat) (ended : Bool) (c : Cpu) : Bool :=
  ended || p.cycles.length ≤ n || (n == p.operands.length && p.skip c)

/-- The end of an instruction, or the start of its decimal-mode extra cycle (R403, R602). -/
def Program.endCycle (p : Program) (s : State) : State :=
  if p.decimal && s.cpu.decimalMode then s.mapCpu (·.setPhase .decimalExtra) else endInstruction p.inhibit s

/-- One cycle after T1 of the current instruction (R400). -/
def executeCycle (s : State) : State :=
  let p := programAt s.cpu.opcode
  match p.cycles[s.cpu.cycle - 2]? with
  | none => endInstruction p.inhibit s
  | some c =>
    let r := runCycle c s
    if p.endsAfter (s.cpu.cycle - 1) r.2 r.1.cpu then p.endCycle (p.finish r.1) else r.1

/-- One cycle of an interrupt or reset sequence; `finish` ends the sequence with its last cycle (R1030, R1040). -/
def sequenceCycle (cycles : List Cycle) (finish : State → State) (s : State) : State :=
  match cycles[s.cpu.cycle - 1]? with
  | none => finish s
  | some c => if cycles.length ≤ s.cpu.cycle then finish (runCycle c s).1 else (runCycle c s).1

/-- The CPU's `on_active_clock()`: one CPU cycle (R400, R1100). -/
def cpuCycle (s : State) : State :=
  match s.cpu.phase with
  | .fetch => (runCycle fetchOpcode s).1
  | .execute => executeCycle s
  | .decimalExtra => endInstruction false (runCycle dummyReadPc s).1
  | .interrupt k => sequenceCycle (interruptCycles k) endInterrupt s
  | .reset => sequenceCycle resetCycles endReset s

/-- One master tick (R1110); a machine that has faulted has stopped (R14). -/
def tick (s : State) : State :=
  if s.faulted then s
  else if s.tickBeforeCpu.2 then cpuCycle s.tickBeforeCpu.1
  else s.tickBeforeCpu.1

/-- `tick(n)` (R1110). -/
def ticks : Nat → State → State
  | 0, s => s
  | n + 1, s => ticks n (tick s)

end Sys2Proof.Machine
end

