-- ==== Sys2Proof/Machine/Fetch.lean ====
section
/-! DEFINITION. Fetching an instruction (R401), running what is left of one, and placing an instruction's bytes where
the next fetch reads them. -/

namespace Sys2Proof.Machine

/-- The machine after T1 and the operand fetches of the instruction at PC, each at its own activation (R401). -/
def fetchInstruction (s : State) : State :=
  let s1 := (runCycle fetchOpcode s.awaitCpu).1
  runCycles (programAt s1.cpu.opcode).fetches s1

/-- The second operand byte of the fetched instruction. JSR has not read it yet (R712): the byte PC addresses; its
meaning does not use it (log 16). -/
def operandHigh (f : State) : Byte := if f.cpu.opcode = 0x20 then cpuPoke f.cpu.pc f else f.cpu.hi

/-- The instruction that has been fetched. -/
def fetchedInstr (f : State) : Instr := instrAt f.cpu.opcode f.cpu.lo (operandHigh f)

/-- The rest of an instruction whose cycle `n + 2` is next: what a state between two cycles has left to do. -/
def Program.resume (p : Program) (n : Nat) (s : State) : State :=
  if n < p.operands.length then p.rest (runCycles (p.fetches.drop n) s)
  else p.finish (runCycles (p.body.drop (n - p.operands.length)) s)

/-- The rest of the current instruction, to its end. -/
def finishInstruction (s : State) : Result :=
  outcome ((programAt s.cpu.opcode).conclude ((programAt s.cpu.opcode).resume (s.cpu.cycle - 2) s))

/-- The rest of an interrupt sequence or of the reset sequence, to its end. -/
def finishSequence (cycles : List Cycle) (finish : State → State) (s : State) : Result :=
  outcome (finish (runCycles (cycles.drop (s.cpu.cycle - 1)) s))

/-- The devices with a byte put into the memory device behind a read port, a ROM's contents included: how an image
comes into the machine from outside (R1132; log 25). Other targets keep their devices. -/
def loadTarget (devs : List Device) (v : Byte) : Target → List Device
  | .hit id d off => match d.kind with
    | .ram => devs.set id (d.store off v)
    | .rom => devs.set id (d.store off v)
    | _ => devs
  | _ => devs

/-- Loads one byte of an image at a CPU address. -/
def State.load (s : State) (addr : Word) (v : Byte) : State :=
  s.setDevices (loadTarget s.devices v (resolve s.cpuBus.reads s.devices addr.toNat))

/-- Loads bytes at consecutive CPU addresses. -/
def State.loadBytes (s : State) (addr : Word) : List Byte → State
  | [] => s
  | v :: vs => State.loadBytes (s.load addr v) (addr + 1) vs

end Sys2Proof.Machine
end

