-- ==== Sys2Proof/Machine/Step.lean ====
section
/-! DEFINITION. One step: a whole instruction, interrupt sequence or reset sequence, with the PPU's dots between its
cycles (log 8). -/

namespace Sys2Proof.Machine

/-- One step. From a state between two cycles of a sequence it runs the rest of that sequence. -/
def step (s : State) : Host.Outcome State Fault Refusal :=
  if s.faulted then .fault .offsetPastDevice
  else
    match s.cpu.phase with
    | .fetch => exec (fetchedInstr (fetchInstruction s)) (fetchInstruction s)
    | .execute => finishInstruction s
    | .decimalExtra => outcome (endInstruction false (runCycles [dummyReadPc] s))
    | .interrupt k => finishSequence (interruptCycles k) endInterrupt s
    | .reset => finishSequence resetCycles endReset s

/-- The machine with an instruction word, numbered as the opcode table numbers it, loaded where the next step fetches,
and the CPU about to fetch it (logs 1 and 25). -/
def State.withFetchWord (s : State) (nbits w : Nat) : State :=
  (s.loadBytes s.cpu.pc (tableBytes nbits w)).mapCpu (·.enter .fetch)

end Sys2Proof.Machine
end

