-- ==== Sys2Proof/Machine/HostApi.lean ====
section
/-! DEFINITION. The host interface (R203, R204, R212, R215, R1002, R1130 to R1132): every call the world outside the
CORE can make between two activations. -/

namespace Sys2Proof.Machine

/-! ## Ports (R202 to R204) -/

/-- The lists an `add_port` call goes to (R202). -/
inductive Direction
  | read
  | write
  | both
  deriving DecidableEq, Repr

def Direction.reads : Direction → Bool
  | .write => false
  | _ => true

def Direction.writes : Direction → Bool
  | .read => false
  | _ => true

/-- `2^W` of a space (R202). -/
def spaceLimit : Space → Nat
  | .cpu => 0x10000
  | .ppu => 0x4000

/-- Whether two ports share an address (R203). -/
def Port.overlaps (p q : Port) : Bool := max p.base q.base < min (p.base + p.size) (q.base + q.size)

/-- Why a registration is rejected, if it is, in the order of R203. -/
def AddressSpace.rejects (sp : Space) (b : AddressSpace) (device : Option Nat) (base size : Nat) (dir : Direction) :
    Option ConfigError :=
  let p : Port := { device := device.getD 0, base := base, size := size }
  if device.isNone then some .nullDevice
  else if size = 0 || spaceLimit sp < base + size then some .outOfSpace
  else if (dir.reads && b.reads.any p.overlaps) || (dir.writes && b.writes.any p.overlaps) then some .overlap
  else none

/-- The space with a port inserted into each selected list (R203). -/
def AddressSpace.insert (b : AddressSpace) (p : Port) (dir : Direction) : AddressSpace :=
  { b with
    reads := if dir.reads then p :: b.reads else b.reads
    writes := if dir.writes then p :: b.writes else b.writes }

/-- `add_port` on one AddressSpace (R203): "a rejected call changes nothing". -/
def AddressSpace.addPort (sp : Space) (b : AddressSpace) (device : Option Nat) (base size : Nat) (dir : Direction) :
    Except ConfigError AddressSpace :=
  match b.rejects sp device base size dir with
  | some e => .error e
  | none => .ok (b.insert { device := device.getD 0, base := base, size := size } dir)

/-- The ports that are kept when those of a device, or the one at an address, are removed. -/
def AddressSpace.keepPorts (b : AddressSpace) (keep : Port → Bool) : AddressSpace :=
  { b with reads := b.reads.filter keep, writes := b.writes.filter keep }

/-- `remove_port(device)` (R204). -/
def AddressSpace.removeDevice (b : AddressSpace) (device : Nat) : AddressSpace := b.keepPorts (·.device != device)

/-- `remove_port(address)` (R204). -/
def AddressSpace.removeAt (b : AddressSpace) (addr : Nat) : AddressSpace := b.keepPorts (!·.contains addr)

/-- `clear()` (R204). -/
def AddressSpace.clear (b : AddressSpace) : AddressSpace := { b with reads := [], writes := [] }

/-- An AddressSpace of the machine. -/
def State.spaceOf (s : State) : Space → AddressSpace
  | .cpu => s.cpuBus
  | .ppu => s.video.bus

def State.setSpace (s : State) (b : AddressSpace) : Space → State
  | .cpu => s.setCpuBus b
  | .ppu => s.setVideo { s.video with bus := b }

/-- `add_port` (R203, R1130). -/
def State.addPort (s : State) (sp : Space) (device : Option Nat) (base size : Nat) (dir : Direction) :
    Except ConfigError State :=
  match (s.spaceOf sp).addPort sp device base size dir with
  | .error e => .error e
  | .ok b => .ok (s.setSpace b sp)

/-- `remove_port` by device (R204). -/
def State.removeDevice (s : State) (sp : Space) (device : Nat) : State :=
  s.setSpace ((s.spaceOf sp).removeDevice device) sp

/-- `remove_port` by address (R204). -/
def State.removeAt (s : State) (sp : Space) (addr : Nat) : State := s.setSpace ((s.spaceOf sp).removeAt addr) sp

/-- `clear` (R204). -/
def State.clearPorts (s : State) (sp : Space) : State := s.setSpace (s.spaceOf sp).clear sp

/-- A device handed in by a collaborator: its place in the device list is the list's length (R1132). -/
def State.attach (s : State) (d : Device) : State := s.setDevices (s.devices ++ [d])

/-- A collaborator changes whether a device drives the bus (R201). -/
def State.setValid (s : State) (id : Nat) (valid : Bool) : State :=
  s.setDevices (s.devices.modify id fun d => { d with valid := valid })

/-! ## Interrupt sources (R1002, R1003) -/

/-- `raise()` by an external IRQ source. -/
def State.raiseIrq (s : State) (src : Nat) : State := s.setIrq (s.irq.raise src)

/-- `release()` by an external IRQ source. -/
def State.releaseIrq (s : State) (src : Nat) : State := s.setIrq (s.irq.release src)

/-! ## Direct accesses (R212, R215) -/

/-- The host's `read` on the CPU bus (R215). -/
def hostRead (addr : Word) (s : State) : Byte × State := cpuRead addr s

/-- The host's `write` on the CPU bus (R215). -/
def hostWrite (addr : Word) (v : Byte) (s : State) : State := cpuWrite addr v s

/-- The host's `poke` of either space (R212). -/
def hostPoke (sp : Space) (addr : Nat) (s : State) : Byte :=
  match sp with
  | .cpu => cpuPoke (BitVec.ofNat 16 addr) s
  | .ppu => ppuPoke addr s

/-! ## Running (R1130) -/

/-- `step_whole()`: `tick(12)`. -/
def stepWhole (s : State) : State := ticks 12 s

/-- Whether the next master tick executes dot 241/1. -/
def State.startsVblank (s : State) : Bool := !s.faulted && s.sched.tick.2.1 && s.video.ppu.landsOn 241 1

/-- Whether one of the next `n` master ticks executes dot 241/1. -/
def vblankWithin : Nat → State → Bool
  | 0, _ => false
  | n + 1, s => s.startsVblank || vblankWithin n (tick s)

/-- Passes of `step_whole()` up to and including one that executes dot 241/1, at most `n`. -/
def runPasses : Nat → State → State
  | 0, s => s
  | n + 1, s => if vblankWithin 12 s then stepWhole s else runPasses n (stepWhole s)

/-- Passes enough for a whole frame: 341 * 262 dots, three a pass (R1300; log 28). -/
def framePasses : Nat := Config.dotsPerLine * Config.linesPerFrame / 3 + 2

/-- `run_frame()` (R1130). -/
def runFrame (s : State) : State := runPasses framePasses s

/-! ## Reset (R160, R1131, R1132) -/

/-- A RAM device at power-up: `RAM_INIT` (R160; log 4). -/
def Device.powerUp (d : Device) : Device := if d.kind = .ram then { d with cells := [] } else d

/-- An AddressSpace at power-up: its ports are kept (R1132; log 31). -/
def AddressSpace.powerUp (b : AddressSpace) : AddressSpace := { b with openBus := 0, fault := none }

/-- `power_cycle()` (R160, R1132). -/
def powerCycle (s : State) : State where
  cpu := Cpu.powerUp
  cpuBus := s.cpuBus.powerUp
  devices := s.devices.map Device.powerUp
  irq := { sources := [] }
  video := { ppu := Ppu.powerUp, bus := s.video.bus.powerUp, nmi := { sources := [], edgePending := false } }
  sched := Sched.powerUp
  diagnostics := s.diagnostics

/-- The CPU at a soft reset (R160): the registers are kept and the current sequence is abandoned. -/
def Cpu.softReset (c : Cpu) : Cpu := ((c.mapP fun p => { p with i := true }).setInhibit false).enter .reset

/-- The PPU at a soft reset (R160): the power-up state but for what is kept. DESIGN CHOICE, unsafe: R160 does not say
whether `spr0_next` (log 33) and the saved local `lo` of R1422 (log 34) are kept, here both are cleared. -/
def Ppu.softReset (p : Ppu) : Ppu :=
  { Ppu.powerUp with
    vbl := p.vbl
    spr0Hit := p.spr0Hit
    sprOverflow := p.sprOverflow
    oamAddr := p.oamAddr
    v := p.v
    ioLatch := p.ioLatch
    oam := p.oam
    palette := p.palette
    oam2 := p.oam2
    framebuffer := p.framebuffer }

/-- A receiver recreated (R1101, R1131). -/
def Receiver.restart (r : Receiver) : Receiver := Receiver.fresh r.divisor

/-- The scheduler at a soft reset (R160): `cpu_cycles` is kept. -/
def Sched.softReset (c : Sched) : Sched where
  masterTick := 0
  cpu := c.cpu.restart
  ppu := c.ppu.restart
  cpuCycles := c.cpuCycles

/-- `soft_reset()` (R160, R1131): ports, memories and latches are kept. -/
def softReset (s : State) : State where
  cpu := s.cpu.softReset
  cpuBus := s.cpuBus
  devices := s.devices
  irq := s.irq
  video :=
    { ppu := s.video.ppu.softReset
      bus := s.video.bus
      nmi := { sources := removeSource Config.ppuNmiSource s.video.nmi.sources, edgePending := false } }
  sched := s.sched.softReset
  diagnostics := s.diagnostics

end Sys2Proof.Machine
end

