-- ==== Sys2Proof/Safety.lean ====
section
/-! DEFINITION. The terms the statements use: when a machine is ready to run, its invariant, what the registers a
program sees are, and the bus accesses of the addressing modes as file 40 lists them, written apart from the cycle
machinery of the model. -/

namespace Sys2Proof.Machine

/-! ## Registers -/

/-- The registers a program can see (R100 to R105). -/
structure Regs where
  a : Byte
  x : Byte
  y : Byte
  s : Byte
  p : Flags
  pc : Word
  deriving DecidableEq, Repr

def Cpu.regs (c : Cpu) : Regs := { a := c.a, x := c.x, y := c.y, s := c.s, p := c.p, pc := c.pc }

/-- The CPU is between two sequences: the next cycle is the first of an instruction, interrupt or reset sequence. -/
def Cpu.atBoundary (c : Cpu) : Bool :=
  c.cycle == 1 && match c.phase with
    | .execute => false
    | .decimalExtra => false
    | _ => true

/-! ## Safe machines -/

/-- No access has faulted and none can, since every port fits in its device (R205), and the memories are canonical. -/
def State.ready (s : State) : Bool := s.busFits && s.memoryWf && !s.faulted

/-- Strictly rising. -/
def rising : List Nat → Bool
  | [] => true
  | [_] => true
  | a :: b :: l => decide (a < b) && rising (b :: l)

/-- What R145 and R1420 say the evaluation cursor can be. -/
def Ppu.evalWf (p : Ppu) : Bool :=
  decide (p.evalN ≤ 64) && decide (p.evalM ≤ 3) && decide (p.evalFound ≤ 8) && match p.evalPhase with
    | .scan => decide (p.evalN ≤ 63) && decide (p.evalFound ≤ 7)
    | .copy k => decide (p.evalN ≤ 63) && decide (p.evalFound ≤ 7) && decide (1 ≤ k) && decide (k ≤ 3)
    | .overflow => decide (p.evalN ≤ 63)
    | .done => true

/-- The PPU's position and counters are in their ranges (R144, R145, R146, R147). -/
def Ppu.wf (p : Ppu) : Bool :=
  decide (p.scanline ≤ 261) && decide (p.dot ≤ 340) && decide (p.sprCountLine ≤ 8) && p.evalWf
    && p.framebuffer.all fun c => decide (c.1 < Config.fbWidth * Config.fbHeight)

/-- A receiver's countdown is between 1 and its divisor (R1101). -/
def Receiver.wf (r : Receiver) : Bool := decide (1 ≤ r.countdown) && decide (r.countdown ≤ r.divisor)

/-- The receivers have the divisors of R9, and no skip is ever requested of the PPU (R1120). -/
def Sched.wf (c : Sched) : Bool :=
  c.cpu.wf && c.ppu.wf && decide (c.cpu.divisor = Config.cpuDiv) && decide (c.ppu.divisor = Config.ppuDiv)
    && decide (c.ppu.skip = 0)

/-- The NMI line's only source is the PPU, asserted exactly while `nmi_out` is 1 (R1003, R1260). -/
def Video.nmiWf (vd : Video) : Bool :=
  decide (vd.nmi.sources = if vd.ppu.nmiOut then [Config.ppuNmiSource] else [])

/-- The invariant of the machine: it is ready, and its counters, lines and PPU position are in their ranges. -/
def State.safe (s : State) : Bool :=
  s.ready && s.video.ppu.wf && s.sched.wf && s.video.nmiWf && rising s.irq.sources

/-! ## Memory cells -/

/-- The byte of one backing cell of one device. -/
def State.cell (s : State) (dev idx : Nat) : Byte :=
  match s.devices[dev]? with
  | some d => d.cells.get idx
  | none => 0

/-- The RAM cell a write to a resolved target stores to, if it is RAM (R206). -/
def Target.ramCell : Target → Option (Nat × Nat)
  | .hit id d off => match d.kind with
    | .ram => some (id, d.index off)
    | _ => none
  | _ => none

/-- The memory cell a CPU write at an address stores to at this moment: RAM behind a write port, or the PPU-space RAM
that PPUDATA addresses (R206, R211, R1217). -/
def State.storesTo (s : State) (addr : Word) : Option (Nat × Nat) :=
  match resolve s.cpuBus.writes s.devices addr.toNat with
  | .hit id d off => match d.kind with
    | .ppuRegisters =>
      if registerOf off = 7 && s.video.ppu.dataAddr < 0x3F00 then
        (resolve s.video.bus.writes s.devices (ppuAddr s.video.ppu.dataAddr)).ramCell
      else none
    | _ => (Target.hit id d off).ramCell
  | _ => none

/-- The byte a CPU address reads as when a memory device answers (R206, R210). -/
def State.memoryByte (s : State) (addr : Word) : Option Byte :=
  match resolve s.cpuBus.reads s.devices addr.toNat with
  | .hit _ d off => match d.kind with
    | .ram => some (d.byteAt off)
    | .rom => some (d.byteAt off)
    | _ => none
  | _ => none

/-! ## Bus accesses, one CPU cycle each -/

/-- `MemRead(addr, 1)` in the CPU's next cycle (R13, R400). Irreducible, as `busWrite` is: proofs go through their
lemmas in Laws/Access.lean. -/
@[irreducible] def busRead (addr : Word) (s : State) : Byte × State := cpuRead addr s.awaitCpu

/-- `MemWrite(addr, 1, v)` in the CPU's next cycle (R13, R400). -/
@[irreducible] def busWrite (addr : Word) (v : Byte) (s : State) : State := cpuWrite addr v s.awaitCpu

/-- The operand of an instruction as one number: its bytes, the first the low half (R303). -/
def operandWord (i : Instr) : Word :=
  joinBytes (i.operandBytes[1]?.getD 0) (i.operandBytes[0]?.getD 0)

/-- The address in the page of `base` that the index gives when its carry is dropped (R432, R433). -/
def samePage (base : Word) (idx : Byte) : Word := joinBytes (hiByte base) (loByte base + idx)

/-- The two pointer reads of the indirect modes, inside page 0 (R440, R441). -/
def readPointer (ptr : Byte) (s : State) : Word × State :=
  let l := busRead (zeroPage ptr) s
  let h := busRead (zeroPage (ptr + 1)) l.2
  (joinBytes h.1 l.1, h.2)

/-- The accesses of a mode before the class sequence, for the write and rmw classes: the effective address, and the
machine after them (R420, R430, R431, R433, R440, R442). -/
def addressPhase (m : Mode) (w : Word) (s : State) : Word × State :=
  match m with
  | .zp => (zeroPage (loByte w), s)
  | .zpx => (zeroPage (loByte w + s.cpu.x), (busRead (zeroPage (loByte w)) s).2)
  | .zpy => (zeroPage (loByte w + s.cpu.y), (busRead (zeroPage (loByte w)) s).2)
  | .abs => (w, s)
  | .absx => (w + zeroPage s.cpu.x, (busRead (samePage w s.cpu.x) s).2)
  | .absy => (w + zeroPage s.cpu.y, (busRead (samePage w s.cpu.y) s).2)
  | .izx => readPointer (loByte w + s.cpu.x) (busRead (zeroPage (loByte w)) s).2
  | .izy =>
    let p := readPointer (loByte w) s
    (p.1 + zeroPage s.cpu.y, (busRead (samePage p.1 s.cpu.y) p.2).2)
  | _ => (0, s)

/-- Whether the index carries out of the low byte of the base (R406). -/
def crossesPage (base : Word) (idx : Byte) : Bool := decide (0xFF < (loByte base).toNat + idx.toNat)

/-- The indexed read: one access, or a dummy read of the wrong page first (R432, R441). -/
def readIndexed (base : Word) (idx : Byte) (s : State) : Byte × State :=
  if crossesPage base idx then busRead (base + zeroPage idx) (busRead (samePage base idx) s).2
  else busRead (base + zeroPage idx) s

/-- The accesses of the read class after the operand fetches: the value, and the machine after them (R405, R412,
R420, R430 to R432, R440, R441). -/
def readPhase (m : Mode) (w : Word) (s : State) : Byte × State :=
  match m with
  | .imm => (loByte w, s)
  | .absx => readIndexed w s.cpu.x s
  | .absy => readIndexed w s.cpu.y s
  | .izy => readIndexed (readPointer (loByte w) s).1 s.cpu.y (readPointer (loByte w) s).2
  | m => busRead (addressPhase m w s).1 (addressPhase m w s).2

/-- The three accesses of the rmw class at an address: read, dummy write, write of `new` of the byte read (R405). -/
def rmwPhase (ea : Word) (new : Byte → Byte) (s : State) : State :=
  let r := busRead ea s
  busWrite ea (new r.1) (busWrite ea r.1 r.2)

/-- A push of a byte with the stack pointer at `sp` (R102). -/
def pushAt (sp : Byte) (v : Byte) (s : State) : State := busWrite (stackAddr sp) v s

/-- A read of the stack with the stack pointer at `sp` (R102). -/
def pullAt (sp : Byte) (s : State) : Byte × State := busRead (stackAddr sp) s

/-! ## The end of an instruction -/

/-- What the poll of R1020 chooses, with `i` the I flag after the instruction. -/
def State.pollPhase (s : State) (inhibit i : Bool) : Phase :=
  if inhibit then .fetch
  else if s.video.nmi.edgePending then .interrupt .nmi
  else if s.irq.isAsserted && !i then .interrupt .irq
  else .fetch

/-- The NMI line after the poll: a line that is read loses its edge (R1011, R1020). -/
def pollNmi (inhibit : Bool) (l : NmiLine) : NmiLine := if inhibit then l else { l with edgePending := false }

/-- `t` is the machine `r`, with its accesses done, after an instruction that leaves the registers `g` and ends with
the work of R403: nothing else has changed. -/
def Ends (inhibit : Bool) (r : State) (g : Regs) (t : State) : Prop :=
  t.cpu.regs = g ∧ t.cpu.irqInhibit = inhibit ∧ t.cpu.phase = r.pollPhase inhibit g.p.i ∧ t.cpu.cycle = 1
    ∧ t.devices = r.devices ∧ t.cpuBus = r.cpuBus ∧ t.irq = r.irq ∧ t.sched = r.sched ∧ t.video.ppu = r.video.ppu
    ∧ t.video.bus = r.video.bus ∧ t.video.nmi = pollNmi inhibit r.video.nmi ∧ t.diagnostics = r.diagnostics

/-- Every memory byte outside the given cells is as it was. -/
def KeepsCells (except : List (Option (Nat × Nat))) (s t : State) : Prop :=
  ∀ dev idx, some (dev, idx) ∉ except → t.cell dev idx = s.cell dev idx

/-- What no step changes: the IRQ sources and the ports of both spaces (R204, R1003). -/
def SameWiring (s t : State) : Prop :=
  t.irq = s.irq ∧ t.cpuBus.reads = s.cpuBus.reads ∧ t.cpuBus.writes = s.cpuBus.writes
    ∧ t.video.bus.reads = s.video.bus.reads ∧ t.video.bus.writes = s.video.bus.writes

/-! ## The shapes of instructions -/

/-- N and Z from a result, the other flags kept (R11). -/
def withNZ (p : Flags) (r : Byte) : Flags := { p with n := r.getLsbD 7, z := decide (r = 0) }

/-- C, N and Z, the other flags kept. -/
def withCNZ (p : Flags) (c : Bool) (r : Byte) : Flags := { withNZ p r with c := c }

/-- No memory byte, no wiring and no record has changed: every address reads as before. -/
def ReadsOnly (s t : State) : Prop :=
  t.devices = s.devices ∧ (∀ addr, t.memoryByte addr = s.memoryByte addr) ∧ SameWiring s t
    ∧ t.diagnostics = s.diagnostics

/-- The read class: the mode's accesses, then registers `g` of the value read. -/
def ReadEnds (i : Instr) (s : State) (g : Byte → Regs) (t : State) : Prop :=
  Ends false (readPhase i.mode (operandWord i) s).2 (g (readPhase i.mode (operandWord i) s).1) t ∧ ReadsOnly s t

/-- Implied and accumulator modes: the dummy read of the next byte, then registers `g` (R410, R411). -/
def ImpliedEnds (inhibit : Bool) (s : State) (g : Regs) (t : State) : Prop :=
  Ends inhibit (busRead s.cpu.pc s).2 g t ∧ ReadsOnly s t

/-- The write class: the mode's accesses, then `v` is stored at the effective address and nowhere else. -/
def StoreEnds (i : Instr) (s : State) (v : Byte) (t : State) : Prop :=
  let q := addressPhase i.mode (operandWord i) s
  Ends false (busWrite q.1 v q.2) s.cpu.regs t
    ∧ KeepsCells [q.2.awaitCpu.storesTo q.1] s t
    ∧ (∀ dev idx, q.2.awaitCpu.storesTo q.1 = some (dev, idx) → t.cell dev idx = v)
    ∧ SameWiring s t ∧ t.diagnostics = s.diagnostics

/-- The rmw class: the mode's accesses, the read, the write of the byte read, the write of `new` of it at the same
address, then registers `g` of it; nothing else is stored. -/
def RmwEnds (i : Instr) (s : State) (new : Byte → Byte) (g : Byte → Regs) (t : State) : Prop :=
  let q := addressPhase i.mode (operandWord i) s
  let r := busRead q.1 q.2
  let u := busWrite q.1 r.1 r.2
  Ends false (rmwPhase q.1 new q.2) (g r.1) t
    ∧ KeepsCells [r.2.awaitCpu.storesTo q.1, u.awaitCpu.storesTo q.1] s t
    ∧ (∀ dev idx, u.awaitCpu.storesTo q.1 = some (dev, idx) → t.cell dev idx = new r.1)
    ∧ SameWiring s t ∧ t.diagnostics = s.diagnostics

/-- The three pushes of the vector routine (R714, R1030): PC's high byte, its low byte, the status. -/
def pushFrame (pc : Word) (sp status : Byte) (s : State) : State :=
  pushAt (sp - 2) status (pushAt (sp - 1) (loByte pc) (pushAt sp (hiByte pc) s))

/-- The cells those pushes store to. -/
def frameCells (pc : Word) (sp : Byte) (s : State) : List (Option (Nat × Nat)) :=
  let s1 := pushAt sp (hiByte pc) s
  let s2 := pushAt (sp - 1) (loByte pc) s1
  [s.awaitCpu.storesTo (stackAddr sp), s1.awaitCpu.storesTo (stackAddr (sp - 1)),
   s2.awaitCpu.storesTo (stackAddr (sp - 2))]

/-- The two reads of a vector, low byte first (R220, R1030). -/
def readVector (vec : Word) (s : State) : Word × State :=
  let l := busRead vec s
  let h := busRead (vec + 1) l.2
  (joinBytes h.1 l.1, h.2)

/-- Reads of one address in successive cycles, their values dropped. -/
def dummyReads : Nat → Word → State → State
  | 0, _, s => s
  | n + 1, addr, s => dummyReads n addr (busRead addr s).2

/-- The condition of a branch (R700). -/
def branchTaken : Instr → Flags → Bool
  | .bpl _, p => !p.n
  | .bmi _, p => p.n
  | .bvc _, p => !p.v
  | .bvs _, p => p.v
  | .bcc _, p => !p.c
  | .bcs _, p => p.c
  | .bne _, p => !p.z
  | .beq _, p => p.z
  | _, _ => false

/-- The cycles beyond the constant of the cycle column (R321, R406, R450): the page term of an indexed read, or a taken
branch and its page term. -/
def extraCycles (i : Instr) (s : State) : Nat :=
  match i.mode with
  | .absx => flagNat (i.pageTerm && crossesPage (operandWord i) s.cpu.x)
  | .absy => flagNat (i.pageTerm && crossesPage (operandWord i) s.cpu.y)
  | .izy => flagNat (i.pageTerm && crossesPage (readPointer (loByte (operandWord i)) s).1 s.cpu.y)
  | .rel =>
    let target := s.cpu.pc + signExtend16 (loByte (operandWord i))
    if branchTaken i s.cpu.p then 1 + flagNat (hiByte target != hiByte s.cpu.pc) else 0
  | _ => 0

/-- The addresses an instruction writes to: its pushes, or the effective address of the write and rmw classes (R405,
R513, R514, R712, R714). The fallback opcodes write nothing (R820). -/
def writeAddresses (i : Instr) (s : State) : List Word :=
  match i with
  | .pha => [stackAddr s.cpu.s]
  | .php => [stackAddr s.cpu.s]
  | .jsrAbs _ => [stackAddr s.cpu.s, stackAddr (s.cpu.s - 1)]
  | .brk _ => [stackAddr s.cpu.s, stackAddr (s.cpu.s - 1), stackAddr (s.cpu.s - 2)]
  | i =>
    if i.status = .fallback || i.mode = .acc then []
    else if i.accessClass = .write || i.accessClass = .rmw then [(addressPhase i.mode (operandWord i) s).1]
    else []

/-- The bytes fetched before an instruction's own accesses: all of them, but for JSR's last (R712). -/
def fetchedBytes (i : Instr) : Nat :=
  match i with
  | .jsrAbs _ => 2
  | i => (encode i).length

end Sys2Proof.Machine
end

