-- ==== Sys2Proof/Certificates/Slice0/Obligations.lean ====
section
/-! DEFINITION. The statements for the provers. In a statement about `exec`, `s` is any ready state, reached or not
(no access has faulted, every port fits in its device, the memories are canonical); the instruction has been fetched
in it, so PC is past its operand bytes (JSR: past the first of them). The terms are those of Safety.lean. -/

open Sys2Proof Sys2Proof.Machine

/-- Decoding what the encoder writes gives the instruction back, whatever bytes follow (R300, R301, R303, R321). -/
def Obligations.DecodeOfEncodeIsTheInstruction : Prop :=
  ∀ (i : Instr) (rest : List Byte), decode (encode i ++ rest) = .ok (i, rest)

/-- Whatever decodes was read whole: the encoding of the instruction and the rest are the bytes (R300, R303, R321). -/
def Obligations.EncodeOfDecodedIsTheBytes : Prop :=
  ∀ (bytes : List Byte) (i : Instr) (rest : List Byte), decode bytes = .ok (i, rest) → encode i ++ rest = bytes

/-- Every byte is an opcode and its length is a function of it alone: with enough bytes the decoder answers, with fewer
it rejects (R301, R402). -/
def Obligations.EveryOpcodeByteDecodesByItselfAlone : Prop :=
  ∀ (op : Byte) (rest : List Byte),
    1 ≤ lengthOf op ∧ lengthOf op ≤ 3 ∧
    (lengthOf op ≤ rest.length + 1 →
      ∃ i, decode (op :: rest) = .ok (i, rest.drop (lengthOf op - 1)) ∧ i.opcode = op
        ∧ (encode i).length = lengthOf op ∧ bytesWellFormed (encode i) = true) ∧
    (rest.length + 1 < lengthOf op → decode (op :: rest) = .error (.missingOperand op))

/-- A few words written from the tables of R300 and R321. -/
def Obligations.SampleWordsDecode : Prop :=
  decode [0b10101001, 0x10] = .ok (.ldaImm 0x10, []) ∧
  decode [0b10001101, 0x00, 0x02] = .ok (.staAbs 0x0200, []) ∧
  decode [0b11100110, 0x10] = .ok (.incZp 0x10, []) ∧
  decode [0b11010000, 0xF5] = .ok (.bne 0xF5, []) ∧
  decode [0b00100000, 0x00, 0x90] = .ok (.jsrAbs 0x9000, []) ∧
  decode [0b00000000, 0x7F] = .ok (.brk 0x7F, []) ∧
  decode [0b01101100, 0xFF, 0x02] = .ok (.jmpInd 0x02FF, []) ∧
  decode [0b00000011, 0x20] = .ok (.sloIzx 0x20, []) ∧
  decode [0b00000010] = .ok (.jam02, []) ∧
  decode [0b10011111, 0x00, 0x02] = .ok (.shaAbsy 0x0200, [])

/-- The invariant holds at reset (R160); the reference ports are the model's choice (log 5). -/
def Obligations.ResetIsSafe : Prop := State.reset.safe = true

/-- From every safe state a step gives a safe state (R144 to R147, R205, R1003, R1101, R1260). -/
def Obligations.StepKeepsTheInvariant : Prop :=
  ∀ s t : State, s.safe = true → step s = .next t → t.safe = true

/-- "never a fatal abort": a ready machine always steps (R1000, R1001, R1050). -/
def Obligations.ReadyMachineAlwaysSteps : Prop :=
  ∀ s : State, s.ready = true →
    ∃ t, step s = .next t ∧ t.ready = true ∧ t.cpu.atBoundary = true ∧ SameWiring s t

/-- Every constructor's meaning answers a next state (R403, R820, R1001, R1020). -/
def Obligations.EveryInstructionCompletes : Prop :=
  ∀ (i : Instr) (s : State), s.ready = true →
    ∃ t, exec i s = .next t ∧ t.ready = true ∧ t.cpu.cycle = 1
      ∧ (t.cpu.phase = .fetch ∨ t.cpu.phase = .interrupt .nmi ∨ t.cpu.phase = .interrupt .irq)
      ∧ (t.cpu.irqInhibit = true ↔ i = .cli ∨ i = .sei ∨ i = .plp)
      ∧ t.diagnostics.length = s.diagnostics.length + (if i.status = .fallback then 1 else 0)
      ∧ SameWiring s t

/-- A step runs the decoded instruction (R401, R402, R103). -/
def Obligations.StepRunsTheDecodedInstruction : Prop :=
  ∀ (s : State) (bytes : List Byte) (i : Instr),
    s.faulted = false → s.cpu.phase = .fetch → decode bytes = .ok (i, []) →
    (∀ k, (h : k < bytes.length) → s.memoryByte (s.cpu.pc + BitVec.ofNat 16 k) = some bytes[k]) →
    step s = exec i (fetchInstruction s)
      ∧ (fetchInstruction s).cpu.regs = { s.cpu.regs with pc := s.cpu.pc + BitVec.ofNat 16 (fetchedBytes i) }
      ∧ (fetchInstruction s).cpu.opcode = i.opcode
      ∧ ReadsOnly s (fetchInstruction s)

/-- The whole-instruction step and the one-tick machine agree: PPU dots and CPU cycles interleave the same way
(R400, R1110, R1121). That a step is a whole sequence is the model's reading (log 8, DEDUCED). -/
def Obligations.StepIsItsMasterTicks : Prop :=
  ∀ s : State, s.ready = true → s.sched.wf = true → s.cpu.atBoundary = true →
    ∃ t, step s = .next t ∧ s.sched.masterTick < t.sched.masterTick
      ∧ ticks (t.sched.masterTick - s.sched.masterTick) s = t

/-- The cycle column of R321, with the terms of R406 and R450 (R460, R461). The stall an OAMDMA write
adds has its own statement, OamDmaCopiesAPage (R1240). -/
def Obligations.CyclesAreTheTablesColumn : Prop :=
  ∀ (i : Instr) (s : State), s.ready = true → s.sched.wf = true → s.sched.cpu.skip = 0 →
    s.sched.cpu.countdown = Config.cpuDiv →
    (∀ a ∈ writeAddresses i s, (resolve s.cpuBus.writes s.devices a.toNat).isOamDma = false) →
    ∃ t, exec i s = .next t
      ∧ t.sched.cpuCycles + fetchedBytes i = s.sched.cpuCycles + i.baseCycles + extraCycles i s
      ∧ t.sched.masterTick = s.sched.masterTick + 12 * (t.sched.cpuCycles - s.sched.cpuCycles)
      ∧ t.sched.cpu.countdown = Config.cpuDiv ∧ t.sched.cpu.skip = 0

/-- R1040, from any ready state in phase Reset. -/
def Obligations.ResetSequence : Prop :=
  (∀ s : State, (powerCycle s).cpu.phase = .reset ∧ (powerCycle s).cpu.cycle = 1 ∧ (softReset s).cpu.phase = .reset
    ∧ (softReset s).cpu.cycle = 1 ∧ (softReset s).video.nmi.edgePending = false
    ∧ (powerCycle s).cpu.s = 0 ∧ (powerCycle s).cpu.pc = 0) ∧
  ∀ s : State, s.ready = true → s.cpu.phase = .reset → s.cpu.cycle = 1 →
    let s2 := dummyReads 2 s.cpu.pc s
    let s5 := (pullAt (s.cpu.s - 2) (pullAt (s.cpu.s - 1) (pullAt s.cpu.s s2).2).2).2
    let v := readVector 0xFFFC s5
    ∃ t, step s = .next t
      ∧ t.cpu.regs = { s.cpu.regs with s := s.cpu.s - 3, p := { s.cpu.p with i := true }, pc := v.1 }
      ∧ t.cpu.phase = .fetch ∧ t.cpu.cycle = 1 ∧ t.cpu.irqInhibit = false
      ∧ t.cpuBus = v.2.cpuBus ∧ t.video = v.2.video ∧ t.sched = v.2.sched ∧ ReadsOnly s t

/-- R1030 and R1031 for both hardware interrupts. -/
def Obligations.InterruptSequence : Prop :=
  ∀ (k : Interrupt) (s : State), s.ready = true → s.cpu.phase = .interrupt k → s.cpu.cycle = 1 →
    let vec : Word := match k with | .nmi => 0xFFFA | .irq => 0xFFFE
    let status : Byte := (s.cpu.p.byte true true &&& 0xCF) ||| 0x20
    let s2 := dummyReads 2 s.cpu.pc s
    let v := readVector vec (pushFrame s.cpu.pc s.cpu.s status s2)
    ∃ t, step s = .next t
      ∧ t.cpu.regs = { s.cpu.regs with s := s.cpu.s - 3, p := { s.cpu.p with i := true }, pc := v.1 }
      ∧ t.cpu.phase = .fetch ∧ t.cpu.cycle = 1 ∧ t.cpu.irqInhibit = s.cpu.irqInhibit
      ∧ t.devices = v.2.devices ∧ t.cpuBus = v.2.cpuBus ∧ t.video = v.2.video ∧ t.sched = v.2.sched
      ∧ KeepsCells (frameCells s.cpu.pc s.cpu.s s2) s t ∧ SameWiring s t ∧ t.diagnostics = s.diagnostics

/-- R403 and the poll of R1020, with R1021's priority; the I flag is the one after the instruction. -/
def Obligations.PollAtTheEndOfAnInstruction : Prop :=
  ∀ (inhibit : Bool) (s : State),
    Ends inhibit s s.cpu.regs (endInstruction inhibit s) ∧
    (s.video.nmi.edgePending = true → (endInstruction false s).cpu.phase = .interrupt .nmi
      ∧ (endInstruction false s).video.nmi.edgePending = false) ∧
    (s.video.nmi.edgePending = false → s.irq.sources ≠ [] → s.cpu.p.i = false →
      (endInstruction false s).cpu.phase = .interrupt .irq ∧ (endInstruction false s).irq = s.irq) ∧
    (s.video.nmi.edgePending = false → (s.irq.sources = [] ∨ s.cpu.p.i = true) →
      (endInstruction false s).cpu.phase = .fetch) ∧
    ((endInstruction true s).cpu.phase = .fetch ∧ (endInstruction true s).video.nmi = s.video.nmi)

/-- R714: BRK's own effect is to enter the vector routine. -/
def Obligations.BreakEntersTheVectorRoutine : Prop :=
  ∀ (b : Byte) (s : State), s.ready = true →
    let status : Byte := s.cpu.p.byte false false ||| 0x30
    let v := readVector 0xFFFE (pushFrame s.cpu.pc s.cpu.s status s)
    ∃ t, exec (.brk b) s = .next t
      ∧ Ends false v.2 { s.cpu.regs with s := s.cpu.s - 3, p := { s.cpu.p with i := true }, pc := v.1 } t
      ∧ KeepsCells (frameCells s.cpu.pc s.cpu.s s) s t ∧ SameWiring s t ∧ t.diagnostics = s.diagnostics

/-- R715 and R1032. -/
def Obligations.ReturnFromInterrupt : Prop :=
  ∀ s : State, s.ready = true →
    let p := pullAt (s.cpu.s + 1) (pullAt s.cpu.s (busRead s.cpu.pc s).2).2
    let l := pullAt (s.cpu.s + 2) p.2
    let h := pullAt (s.cpu.s + 3) l.2
    ∃ t, exec .rti s = .next t
      ∧ Ends false h.2
          { s.cpu.regs with
            s := s.cpu.s + 3
            p := { c := p.1.getLsbD 0, z := p.1.getLsbD 1, i := p.1.getLsbD 2, d := p.1.getLsbD 3,
                   v := p.1.getLsbD 6, n := p.1.getLsbD 7 }
            pc := joinBytes h.1 l.1 } t
      ∧ ReadsOnly s t

/-- R1002, R1010 and R1011. -/
def Obligations.InterruptLines : Prop :=
  (∀ (l : IrqLine) (a k : Nat),
    (k ∈ (l.raise a).sources ↔ k = a ∨ k ∈ l.sources) ∧ (k ∈ (l.release a).sources ↔ k ≠ a ∧ k ∈ l.sources)
      ∧ (l.isAsserted = true ↔ ∃ j, j ∈ l.sources)
      ∧ (rising l.sources = true → rising (l.raise a).sources = true ∧ rising (l.release a).sources = true)
      ∧ (rising l.sources = true → a ∈ l.sources → l.raise a = l) ∧ (a ∉ l.sources → l.release a = l)) ∧
  (∀ (l : NmiLine) (a : Nat),
    (l.raise a).edgePending = (l.edgePending || !lineLevel l.sources) ∧ lineLevel (l.raise a).sources = true
      ∧ (l.release a).edgePending = l.edgePending
      ∧ l.isAsserted.1 = l.edgePending ∧ l.isAsserted.2 = { l with edgePending := false })

/-- R450 and R700 to R708. -/
def Obligations.BranchesTakeOrFallThrough : Prop :=
  ∀ (b : Byte) (s : State), s.ready = true →
    let target : Word := s.cpu.pc + b.signExtend 16
    let s1 := (busRead s.cpu.pc s).2
    let s2 := (busRead (joinBytes (hiByte s.cpu.pc) (loByte target)) s1).2
    ∀ q ∈ [(Instr.bpl b, !s.cpu.p.n), (.bmi b, s.cpu.p.n), (.bvc b, !s.cpu.p.v), (.bvs b, s.cpu.p.v),
           (.bcc b, !s.cpu.p.c), (.bcs b, s.cpu.p.c), (.bne b, !s.cpu.p.z), (.beq b, s.cpu.p.z)],
      ∃ t, exec q.1 s = .next t ∧ ReadsOnly s t
        ∧ (q.2 = false → Ends false s s.cpu.regs t)
        ∧ (q.2 = true → hiByte target = hiByte s.cpu.pc → Ends false s1 { s.cpu.regs with pc := target } t)
        ∧ (q.2 = true → hiByte target ≠ hiByte s.cpu.pc → Ends false s2 { s.cpu.regs with pc := target } t)

/-- R710, R711 and R451 with the page bug, R712 and R713. JSR's own high operand byte is not used: it is read at T6
(log 16). -/
def Obligations.JumpsCallsAndReturns : Prop :=
  (∀ (w : Word) (s : State), s.ready = true →
    (∃ t, exec (.jmpAbs w) s = .next t ∧ Ends false s { s.cpu.regs with pc := w } t ∧ ReadsOnly s t) ∧
    (let l := busRead w s
     let h := busRead (samePage w 1) l.2
     ∃ t, exec (.jmpInd w) s = .next t ∧ Ends false h.2 { s.cpu.regs with pc := joinBytes h.1 l.1 } t
       ∧ ReadsOnly s t)) ∧
  (∀ (w : Word) (s : State), s.ready = true →
    let s1 := (pullAt s.cpu.s s).2
    let s2 := pushAt s.cpu.s (hiByte s.cpu.pc) s1
    let s3 := pushAt (s.cpu.s - 1) (loByte s.cpu.pc) s2
    let h := busRead s.cpu.pc s3
    ∃ t, exec (.jsrAbs w) s = .next t
      ∧ Ends false h.2 { s.cpu.regs with s := s.cpu.s - 2, pc := joinBytes h.1 (loByte w) } t
      ∧ KeepsCells [s1.awaitCpu.storesTo (stackAddr s.cpu.s), s2.awaitCpu.storesTo (stackAddr (s.cpu.s - 1))] s t
      ∧ SameWiring s t ∧ t.diagnostics = s.diagnostics) ∧
  (∀ s : State, s.ready = true →
    let l := pullAt (s.cpu.s + 1) (pullAt s.cpu.s (busRead s.cpu.pc s).2).2
    let h := pullAt (s.cpu.s + 2) l.2
    let e := busRead (joinBytes h.1 l.1) h.2
    ∃ t, exec .rts s = .next t
      ∧ Ends false e.2 { s.cpu.regs with s := s.cpu.s + 2, pc := joinBytes h.1 l.1 + 1 } t ∧ ReadsOnly s t)

/-- R720 to R726. -/
def Obligations.FlagInstructions : Prop :=
  ∀ s : State, s.ready = true →
    let g (p : Flags) : Regs := { s.cpu.regs with p := p }
    ∀ q ∈ [(Instr.clc, false, { s.cpu.p with c := false }), (.sec, false, { s.cpu.p with c := true }),
           (.cli, true, { s.cpu.p with i := false }), (.sei, true, { s.cpu.p with i := true }),
           (.clv, false, { s.cpu.p with v := false }), (.cld, false, { s.cpu.p with d := false }),
           (.sed, false, { s.cpu.p with d := true })],
      ∃ t, exec q.1 s = .next t ∧ ImpliedEnds q.2.1 s (g q.2.2) t

/-- R501, R502, R503, R806 and R814, all modes. -/
def Obligations.LoadsSetTheirRegister : Prop :=
  ∀ (b : Byte) (w : Word) (s : State), s.ready = true →
    (∀ i ∈ [Instr.ldaIzx b, .ldaZp b, .ldaImm b, .ldaAbs w, .ldaIzy b, .ldaZpx b, .ldaAbsy w,
        .ldaAbsx w], ∃ t, exec i s = .next t
        ∧ ReadEnds i s (fun v => { s.cpu.regs with a := v, p := withNZ s.cpu.p v }) t) ∧
    (∀ i ∈ [Instr.ldxImm b, .ldxZp b, .ldxAbs w, .ldxZpy b, .ldxAbsy w], ∃ t, exec i s = .next t
        ∧ ReadEnds i s (fun v => { s.cpu.regs with x := v, p := withNZ s.cpu.p v }) t) ∧
    (∀ i ∈ [Instr.ldyImm b, .ldyZp b, .ldyAbs w, .ldyZpx b, .ldyAbsx w], ∃ t, exec i s = .next t
        ∧ ReadEnds i s (fun v => { s.cpu.regs with y := v, p := withNZ s.cpu.p v }) t) ∧
    (∀ i ∈ [Instr.laxIzx b, .laxZp b, .laxAbs w, .laxIzy b, .laxZpy b, .laxAbsy w], ∃ t, exec i s = .next t
        ∧ ReadEnds i s (fun v => { s.cpu.regs with a := v, x := v, p := withNZ s.cpu.p v }) t) ∧
    (∀ i ∈ [Instr.lasAbsy w], ∃ t, exec i s = .next t
        ∧ ReadEnds i s (fun v =>
            { s.cpu.regs with
              a := v &&& s.cpu.s, x := v &&& s.cpu.s, s := v &&& s.cpu.s, p := withNZ s.cpu.p (v &&& s.cpu.s) }) t)

/-- R504, R505, R506 and R805, all modes. -/
def Obligations.StoresWriteTheirByte : Prop :=
  ∀ (b : Byte) (w : Word) (s : State), s.ready = true →
    (∀ i ∈ [Instr.staIzx b, .staZp b, .staAbs w, .staIzy b, .staZpx b, .staAbsy w, .staAbsx w], ∃ t, exec i s = .next t
        ∧ StoreEnds i s s.cpu.a t) ∧
    (∀ i ∈ [Instr.stxZp b, .stxAbs w, .stxZpy b], ∃ t, exec i s = .next t
        ∧ StoreEnds i s s.cpu.x t) ∧
    (∀ i ∈ [Instr.styZp b, .styAbs w, .styZpx b], ∃ t, exec i s = .next t
        ∧ StoreEnds i s s.cpu.y t) ∧
    (∀ i ∈ [Instr.saxIzx b, .saxZp b, .saxAbs w, .saxZpy b], ∃ t, exec i s = .next t
        ∧ StoreEnds i s (s.cpu.a &&& s.cpu.x) t)

/-- R507 to R512 and R617 to R620. -/
def Obligations.RegisterTransfersAndCounts : Prop :=
  ∀ s : State, s.ready = true →
    let g := s.cpu.regs
    let c := s.cpu
    ∀ q ∈ [(Instr.tax, { g with x := c.a, p := withNZ c.p c.a }), (.tay, { g with y := c.a, p := withNZ c.p c.a }),
           (.txa, { g with a := c.x, p := withNZ c.p c.x }), (.tya, { g with a := c.y, p := withNZ c.p c.y }),
           (.tsx, { g with x := c.s, p := withNZ c.p c.s }), (.txs, { g with s := c.x }),
           (.inx, { g with x := c.x + 1, p := withNZ c.p (c.x + 1) }),
           (.iny, { g with y := c.y + 1, p := withNZ c.p (c.y + 1) }),
           (.dex, { g with x := c.x - 1, p := withNZ c.p (c.x - 1) }),
           (.dey, { g with y := c.y - 1, p := withNZ c.p (c.y - 1) })],
      ∃ t, exec q.1 s = .next t ∧ ImpliedEnds false s q.2 t

/-- R513 to R516. -/
def Obligations.StackPushesAndPulls : Prop :=
  ∀ s : State, s.ready = true →
    let s1 := (busRead s.cpu.pc s).2
    let r := pullAt (s.cpu.s + 1) (pullAt s.cpu.s s1).2
    (∀ q ∈ [(Instr.pha, s.cpu.a), (.php, s.cpu.p.byte false false ||| 0x30)],
      ∃ t, exec q.1 s = .next t
        ∧ Ends false (pushAt s.cpu.s q.2 s1) { s.cpu.regs with s := s.cpu.s - 1 } t
        ∧ KeepsCells [s1.awaitCpu.storesTo (stackAddr s.cpu.s)] s t
        ∧ (∀ dev idx, s1.awaitCpu.storesTo (stackAddr s.cpu.s) = some (dev, idx) → t.cell dev idx = q.2)
        ∧ SameWiring s t ∧ t.diagnostics = s.diagnostics) ∧
    (∃ t, exec .pla s = .next t
      ∧ Ends false r.2 { s.cpu.regs with a := r.1, s := s.cpu.s + 1, p := withNZ s.cpu.p r.1 } t ∧ ReadsOnly s t) ∧
    (∃ t, exec .plp s = .next t
      ∧ Ends true r.2
          { s.cpu.regs with
            s := s.cpu.s + 1
            p := { c := r.1.getLsbD 0, z := r.1.getLsbD 1, i := r.1.getLsbD 2, d := r.1.getLsbD 3,
                   v := r.1.getLsbD 6, n := r.1.getLsbD 7 } } t
      ∧ ReadsOnly s t)

/-- R600, R601, R604, R605 and R813 in exact integers, binary as R10 has it for this system. -/
def Obligations.AddAndSubtract : Prop :=
  ∀ (b : Byte) (w : Word) (s : State), s.ready = true →
    let a := s.cpu.a
    let c := flagNat s.cpu.p.c
    let out (r : Byte) (carry : Bool) (signed : Int) : Regs :=
      { s.cpu.regs with
        a := r
        p := { withCNZ s.cpu.p carry r with v := decide (signed < -128 ∨ 127 < signed) } }
    (∀ i ∈ [Instr.adcIzx b, .adcZp b, .adcImm b, .adcAbs w, .adcIzy b, .adcZpx b, .adcAbsy w,
        .adcAbsx w], ∃ t, exec i s = .next t
        ∧ ReadEnds i s (fun m =>
            out (BitVec.ofNat 8 (a.toNat + m.toNat + c)) (decide (255 < a.toNat + m.toNat + c))
              (a.toInt + m.toInt + c)) t) ∧
    (∀ i ∈ [Instr.sbcIzx b, .sbcZp b, .sbcImm b, .sbcAbs w, .sbcIzy b, .sbcZpx b, .sbcAbsy w,
        .sbcAbsx w, .usbcImm b], ∃ t, exec i s = .next t
        ∧ ReadEnds i s (fun m =>
            out (BitVec.ofInt 8 ((a.toNat : Int) - m.toNat - (1 - c)))
              (decide ((0 : Int) ≤ (a.toNat : Int) - m.toNat - (1 - c))) (a.toInt - m.toInt - (1 - c))) t)

/-- R607 to R610, all modes. -/
def Obligations.LogicAndBitTest : Prop :=
  ∀ (b : Byte) (w : Word) (s : State), s.ready = true →
    let out (r : Byte) : Regs := { s.cpu.regs with a := r, p := withNZ s.cpu.p r }
    (∀ i ∈ [Instr.andIzx b, .andZp b, .andImm b, .andAbs w, .andIzy b, .andZpx b, .andAbsy w,
        .andAbsx w], ∃ t, exec i s = .next t
        ∧ ReadEnds i s (fun m => out (s.cpu.a &&& m)) t) ∧
    (∀ i ∈ [Instr.oraIzx b, .oraZp b, .oraImm b, .oraAbs w, .oraIzy b, .oraZpx b, .oraAbsy w,
        .oraAbsx w], ∃ t, exec i s = .next t
        ∧ ReadEnds i s (fun m => out (s.cpu.a ||| m)) t) ∧
    (∀ i ∈ [Instr.eorIzx b, .eorZp b, .eorImm b, .eorAbs w, .eorIzy b, .eorZpx b, .eorAbsy w,
        .eorAbsx w], ∃ t, exec i s = .next t
        ∧ ReadEnds i s (fun m => out (s.cpu.a ^^^ m)) t) ∧
    (∀ i ∈ [Instr.bitZp b, .bitAbs w], ∃ t, exec i s = .next t
        ∧ ReadEnds i s (fun m =>
            { s.cpu.regs with
              p := { s.cpu.p with z := decide (s.cpu.a &&& m = 0), n := m.getLsbD 7, v := m.getLsbD 6 } }) t)

/-- R611 to R614, all modes. -/
def Obligations.Comparisons : Prop :=
  ∀ (b : Byte) (w : Word) (s : State), s.ready = true →
    let out (r m : Byte) : Regs :=
      { s.cpu.regs with
        p := { s.cpu.p with c := decide (m.toNat ≤ r.toNat), z := decide (r = m), n := (r - m).getLsbD 7 } }
    (∀ i ∈ [Instr.cmpIzx b, .cmpZp b, .cmpImm b, .cmpAbs w, .cmpIzy b, .cmpZpx b, .cmpAbsy w,
        .cmpAbsx w], ∃ t, exec i s = .next t
        ∧ ReadEnds i s (out s.cpu.a) t) ∧
    (∀ i ∈ [Instr.cpxImm b, .cpxZp b, .cpxAbs w], ∃ t, exec i s = .next t
        ∧ ReadEnds i s (out s.cpu.x) t) ∧
    (∀ i ∈ [Instr.cpyImm b, .cpyZp b, .cpyAbs w], ∃ t, exec i s = .next t
        ∧ ReadEnds i s (out s.cpu.y) t)

/-- The memory forms of R615, R616 and R621 to R624, with the dummy write of R405 and R421, and the accumulator forms of
R621 to R624 (R411). -/
def Obligations.ReadModifyWriteInstructions : Prop :=
  (∀ (b : Byte) (w : Word) (s : State), s.ready = true →
    let c := flagNat s.cpu.p.c
    let counted (r : Byte) : Regs := { s.cpu.regs with p := withNZ s.cpu.p r }
    let shifted (carry : Bool) (r : Byte) : Regs := { s.cpu.regs with p := withCNZ s.cpu.p carry r }
    let left (v : Byte) (c : Nat) : Byte := BitVec.ofNat 8 (2 * v.toNat + c)
    let right (v : Byte) (c : Nat) : Byte := BitVec.ofNat 8 (v.toNat / 2 + 128 * c)
    (∀ i ∈ [Instr.incZp b, .incAbs w, .incZpx b, .incAbsx w], ∃ t, exec i s = .next t
        ∧ RmwEnds i s (· + 1) (fun v => counted (v + 1)) t) ∧
    (∀ i ∈ [Instr.decZp b, .decAbs w, .decZpx b, .decAbsx w], ∃ t, exec i s = .next t
        ∧ RmwEnds i s (· - 1) (fun v => counted (v - 1)) t) ∧
    (∀ i ∈ [Instr.aslZp b, .aslAbs w, .aslZpx b, .aslAbsx w], ∃ t, exec i s = .next t
        ∧ RmwEnds i s (left · 0) (fun v => shifted (v.getLsbD 7) (left v 0)) t) ∧
    (∀ i ∈ [Instr.lsrZp b, .lsrAbs w, .lsrZpx b, .lsrAbsx w], ∃ t, exec i s = .next t
        ∧ RmwEnds i s (right · 0) (fun v => shifted (v.getLsbD 0) (right v 0)) t) ∧
    (∀ i ∈ [Instr.rolZp b, .rolAbs w, .rolZpx b, .rolAbsx w], ∃ t, exec i s = .next t
        ∧ RmwEnds i s (left · c) (fun v => shifted (v.getLsbD 7) (left v c)) t) ∧
    (∀ i ∈ [Instr.rorZp b, .rorAbs w, .rorZpx b, .rorAbsx w], ∃ t, exec i s = .next t
        ∧ RmwEnds i s (right · c) (fun v => shifted (v.getLsbD 0) (right v c)) t)) ∧
  (∀ s : State, s.ready = true →
    let a := s.cpu.a
    let c := flagNat s.cpu.p.c
    let out (carry : Bool) (n : Nat) : Regs :=
      { s.cpu.regs with a := BitVec.ofNat 8 n, p := withCNZ s.cpu.p carry (BitVec.ofNat 8 n) }
    ∀ q ∈ [(Instr.aslAcc, out (a.getLsbD 7) (2 * a.toNat)), (.lsrAcc, out (a.getLsbD 0) (a.toNat / 2)),
           (.rolAcc, out (a.getLsbD 7) (2 * a.toNat + c)), (.rorAcc, out (a.getLsbD 0) (a.toNat / 2 + 128 * c))],
      ∃ t, exec q.1 s = .next t ∧ ImpliedEnds false s q.2 t)

/-- What R603 and R606 are for: arithmetic on decimal digits; and R10: this system never uses them. -/
def Obligations.DecimalFunctionsOnDigits : Prop :=
  (∀ (a m : Byte) (c : Bool), lowDigit a ≤ 9 → highDigit a ≤ 9 → lowDigit m ≤ 9 → highDigit m ≤ 9 →
    let value (b : Byte) : Nat := 10 * highDigit b + lowDigit b
    let r := decAdd a m c
    let d := decSub a m c
    lowDigit r.r ≤ 9 ∧ highDigit r.r ≤ 9 ∧ value r.r = (value a + value m + flagNat c) % 100
      ∧ (r.c = true ↔ 100 ≤ value a + value m + flagNat c)
      ∧ lowDigit d ≤ 9 ∧ highDigit d ≤ 9 ∧ value d = (value a + 100 + flagNat c - value m - 1) % 100) ∧
  (∀ c : Cpu, c.decimalMode = false)

/-- R801 to R804, R807 and R808, all modes. -/
def Obligations.CombinedReadModifyWrite : Prop :=
  ∀ (b : Byte) (w : Word) (s : State), s.ready = true →
    let a := s.cpu.a
    let p := s.cpu.p
    let c := flagNat p.c
    let left (v : Byte) (c : Nat) : Byte := BitVec.ofNat 8 (2 * v.toNat + c)
    let right (v : Byte) (c : Nat) : Byte := BitVec.ofNat 8 (v.toNat / 2 + 128 * c)
    let out (carry : Bool) (r : Byte) : Regs := { s.cpu.regs with a := r, p := withCNZ p carry r }
    let sum (carry : Bool) (r : Byte) (signed : Int) : Regs :=
      { s.cpu.regs with a := r, p := { withCNZ p carry r with v := decide (signed < -128 ∨ 127 < signed) } }
    let add (m : Byte) (c : Nat) : Regs :=
      sum (decide (255 < a.toNat + m.toNat + c)) (BitVec.ofNat 8 (a.toNat + m.toNat + c)) (a.toInt + m.toInt + c)
    let subtract (m : Byte) : Regs :=
      let d : Int := (a.toNat : Int) - m.toNat - (1 - c)
      sum (decide (0 ≤ d)) (BitVec.ofInt 8 d) (a.toInt - m.toInt - (1 - c))
    let compared (m : Byte) : Regs :=
      { s.cpu.regs with
        p := { p with c := decide (m.toNat ≤ a.toNat), z := decide (a = m), n := (a - m).getLsbD 7 } }
    (∀ i ∈ [Instr.sloIzx b, .sloZp b, .sloAbs w, .sloIzy b, .sloZpx b, .sloAbsy w, .sloAbsx w], ∃ t, exec i s = .next t
        ∧ RmwEnds i s (left · 0) (fun v => out (v.getLsbD 7) (a ||| left v 0)) t) ∧
    (∀ i ∈ [Instr.rlaIzx b, .rlaZp b, .rlaAbs w, .rlaIzy b, .rlaZpx b, .rlaAbsy w, .rlaAbsx w], ∃ t, exec i s = .next t
        ∧ RmwEnds i s (left · c) (fun v => out (v.getLsbD 7) (a &&& left v c)) t) ∧
    (∀ i ∈ [Instr.sreIzx b, .sreZp b, .sreAbs w, .sreIzy b, .sreZpx b, .sreAbsy w, .sreAbsx w], ∃ t, exec i s = .next t
        ∧ RmwEnds i s (right · 0) (fun v => out (v.getLsbD 0) (a ^^^ right v 0)) t) ∧
    (∀ i ∈ [Instr.rraIzx b, .rraZp b, .rraAbs w, .rraIzy b, .rraZpx b, .rraAbsy w, .rraAbsx w], ∃ t, exec i s = .next t
        ∧ RmwEnds i s (right · c) (fun v => add (right v c) (flagNat (v.getLsbD 0))) t) ∧
    (∀ i ∈ [Instr.dcpIzx b, .dcpZp b, .dcpAbs w, .dcpIzy b, .dcpZpx b, .dcpAbsy w, .dcpAbsx w], ∃ t, exec i s = .next t
        ∧ RmwEnds i s (· - 1) (fun v => compared (v - 1)) t) ∧
    (∀ i ∈ [Instr.iscIzx b, .iscZp b, .iscAbs w, .iscIzy b, .iscZpx b, .iscAbsy w, .iscAbsx w], ∃ t, exec i s = .next t
        ∧ RmwEnds i s (· + 1) (fun v => subtract (v + 1)) t)

/-- R809 to R812; ARR is binary in every mode. -/
def Obligations.ImmediateCombinations : Prop :=
  ∀ (b : Byte) (s : State), s.ready = true →
    let p := s.cpu.p
    let m := s.cpu.a &&& b
    let x := s.cpu.a &&& s.cpu.x
    let right (v : Byte) (c : Nat) : Byte := BitVec.ofNat 8 (v.toNat / 2 + 128 * c)
    let outA (p : Flags) (r : Byte) : Regs := { s.cpu.regs with a := r, p := p }
    let arr := right m (flagNat p.c)
    (∀ i ∈ [Instr.anc0B b, .anc2B b], ∃ t, exec i s = .next t
        ∧ ReadEnds i s (fun _ => outA (withCNZ p (m.getLsbD 7) m) m) t) ∧
    (∀ i ∈ [Instr.alrImm b], ∃ t, exec i s = .next t
        ∧ ReadEnds i s (fun _ => outA (withCNZ p (m.getLsbD 0) (right m 0)) (right m 0)) t) ∧
    (∀ i ∈ [Instr.arrImm b], ∃ t, exec i s = .next t
        ∧ ReadEnds i s (fun _ =>
            outA { withCNZ p (arr.getLsbD 6) arr with v := xor (arr.getLsbD 6) (arr.getLsbD 5) } arr) t) ∧
    (∀ i ∈ [Instr.sbxImm b], ∃ t, exec i s = .next t
        ∧ ReadEnds i s (fun _ =>
            { s.cpu.regs with x := x - b, p := withCNZ p (decide (b.toNat ≤ x.toNat)) (x - b) }) t)

/-- R730 and R815, all modes. -/
def Obligations.NopsOnlyMakeTheirAccesses : Prop :=
  ∀ (b : Byte) (w : Word) (s : State), s.ready = true →
    (∀ i ∈ [Instr.nopImp1A, .nopImp3A, .nopImp5A, .nopImp7A, .nopImpDA, .nop, .nopImpFA], ∃ t, exec i s = .next t
        ∧ ImpliedEnds false s s.cpu.regs t) ∧
    (∀ i ∈ [Instr.nopZp04 b, .nopAbs w, .nopZpx14 b, .nopAbsx1C w, .nopZpx34 b, .nopAbsx3C w,
        .nopZp44 b, .nopZpx54 b, .nopAbsx5C w, .nopZp64 b, .nopZpx74 b, .nopAbsx7C w,
        .nopImm80 b, .nopImm82 b, .nopImm89 b, .nopImmC2 b, .nopZpxD4 b, .nopAbsxDC w,
        .nopImmE2 b, .nopZpxF4 b, .nopAbsxFC w], ∃ t, exec i s = .next t
        ∧ ReadEnds i s (fun _ => s.cpu.regs) t)

/-- R820 to R827; the record is kept when the instruction ends (log 15). -/
def Obligations.FallbackOpcodesAreLoggedNops : Prop :=
  ∀ (i : Instr) (s : State), s.ready = true → i.status = .fallback →
    let d : Diagnostic := { pc := s.cpu.pc - BitVec.ofNat 16 (encode i).length, opcode := i.opcode }
    let r := dummyReads (i.baseCycles - (encode i).length) s.cpu.pc s
    ∃ t, exec i s = .next t ∧ Ends false (r.logDiagnostic d) s.cpu.regs t
      ∧ t.devices = s.devices ∧ (∀ addr, t.memoryByte addr = s.memoryByte addr) ∧ SameWiring s t
      ∧ t.diagnostics = d :: s.diagnostics

/-- R206, R210 and R211 on the CPU space; the cell a PPUDATA write stores to is R1217's. -/
def Obligations.ReadAfterWriteOfRam : Prop :=
  ∀ (s : State) (addr : Word) (v : Byte), s.memoryWf = true →
    (∀ id d off off', d.kind = .ram → d.index off = d.index off' →
      resolve s.cpuBus.writes s.devices addr.toNat = .hit id d off →
      resolve s.cpuBus.reads s.devices addr.toNat = .hit id d off' →
      (cpuRead addr (cpuWrite addr v s)).1 = v) ∧
    (∀ dev idx, s.storesTo addr ≠ some (dev, idx) → (cpuWrite addr v s).cell dev idx = s.cell dev idx) ∧
    (∀ dev idx, s.storesTo addr = some (dev, idx) → (cpuWrite addr v s).cell dev idx = v) ∧
    (cpuRead addr s).2.devices = s.devices

/-- R210, R211, R212 and R214. A DMA's own reads update the latch after the write (R1240; log 11). A write-only register
on a read port answers as absent (log 12). -/
def Obligations.OpenBusAndPoke : Prop :=
  ∀ (s : State) (addr : Word) (v : Byte),
    let rd := resolve s.cpuBus.reads s.devices addr.toNat
    let wr := resolve s.cpuBus.writes s.devices addr.toNat
    ((rd = .absent → cpuRead addr s = (s.cpuBus.openBus, s)) ∧
      (∀ id d off, rd = .hit id d off → d.kind ≠ .oamDma →
        (cpuRead addr s).2.cpuBus.openBus = (cpuRead addr s).1) ∧
      (wr.isOamDma = false → (cpuWrite addr v s).cpuBus.openBus = v) ∧
      (wr = .absent → cpuWrite addr v s = s.setCpuBus { s.cpuBus with openBus := v })) ∧
    (∀ id d off, rd = .hit id d off → d.pokeable = true → cpuPoke addr s = (cpuRead addr s).1) ∧
    (∀ id d off, rd = .hit id d off → d.pokeable = false → cpuPoke addr s = s.cpuBus.openBus) ∧
    (rd = .absent → cpuPoke addr s = s.cpuBus.openBus)

/-- R205 and class 4 of R1000; the Fault is answered at the end of the step (log 17). -/
def Obligations.OffsetPastDeviceStopsTheMachine : Prop :=
  (∀ (s : State) (addr : Word) (v : Byte),
    (resolve s.cpuBus.reads s.devices addr.toNat = .pastDevice → (cpuRead addr s).2.faulted = true) ∧
    (resolve s.cpuBus.writes s.devices addr.toNat = .pastDevice → (cpuWrite addr v s).faulted = true)) ∧
  (∀ s : State, s.faulted = true → step s = .fault .offsetPastDevice ∧ tick s = s) ∧
  (∀ (s : State) (addr : Nat), s.busFits = true →
    resolve s.cpuBus.reads s.devices addr ≠ .pastDevice ∧ resolve s.cpuBus.writes s.devices addr ≠ .pastDevice)

/-- R202 to R204 on one AddressSpace, and the port an address reaches (R210). -/
def Obligations.PortRegistration : Prop :=
  ∀ (sp : Space) (b : AddressSpace) (base size : Nat) (dir : Direction),
    let limit : Nat := match sp with | .cpu => 65536 | .ppu => 16384
    let shares (q : Port) : Prop := ∃ a, q.contains a = true ∧ base ≤ a ∧ a < base + size
    let apart (l : List Port) : Prop := l.Pairwise fun q r => ∀ a, ¬ (q.contains a = true ∧ r.contains a = true)
    b.addPort sp none base size dir = .error .nullDevice ∧
    (∀ dev, (size = 0 ∨ limit < base + size) → b.addPort sp (some dev) base size dir = .error .outOfSpace) ∧
    (∀ dev, 1 ≤ size → base + size ≤ limit →
      ((∃ q, shares q ∧ ((dir ≠ .write ∧ q ∈ b.reads) ∨ (dir ≠ .read ∧ q ∈ b.writes))) →
        b.addPort sp (some dev) base size dir = .error .overlap) ∧
      (¬ (∃ q, shares q ∧ ((dir ≠ .write ∧ q ∈ b.reads) ∨ (dir ≠ .read ∧ q ∈ b.writes))) →
        let p : Port := { device := dev, base := base, size := size }
        b.addPort sp (some dev) base size dir =
          .ok { b with reads := if dir = .write then b.reads else p :: b.reads,
                       writes := if dir = .read then b.writes else p :: b.writes })) ∧
    (∀ (q : Port) (dev a : Nat),
      (q ∈ (b.removeDevice dev).reads ↔ q ∈ b.reads ∧ q.device ≠ dev) ∧
      (q ∈ (b.removeDevice dev).writes ↔ q ∈ b.writes ∧ q.device ≠ dev) ∧
      (q ∈ (b.removeAt a).reads ↔ q ∈ b.reads ∧ q.contains a = false) ∧
      (q ∈ (b.removeAt a).writes ↔ q ∈ b.writes ∧ q.contains a = false)) ∧
    b.clear = { b with reads := [], writes := [] } ∧
    (∀ dev a, (b.removeDevice dev).openBus = b.openBus ∧ (b.removeAt a).openBus = b.openBus) ∧
    (apart b.reads → apart b.writes →
      (∀ dev b', b.addPort sp dev base size dir = .ok b' → apart b'.reads ∧ apart b'.writes) ∧
      (∀ dev a, apart (b.removeDevice dev).reads ∧ apart (b.removeDevice dev).writes
        ∧ apart (b.removeAt a).reads ∧ apart (b.removeAt a).writes) ∧
      (∀ a q, q.contains a = true → (q ∈ b.reads → portAt b.reads a = some q) ∧
        (q ∈ b.writes → portAt b.writes a = some q)))

/-- The sparse memories behind R206; an unlisted cell reads as 0 (log 4). -/
def Obligations.CanonicalMemories : Prop :=
  ∀ (width : Nat) (m : Cells width) (k : Nat) (v : BitVec width),
    Memory.wf m = true →
    Memory.wf (m.set k v) = true ∧ (m.set k v).get k = v ∧ (∀ j, j ≠ k → (m.set k v).get j = m.get j) ∧
    (∀ m' : Cells width, Memory.wf m' = true → (∀ j, m'.get j = m.get j) → m' = m)

/-- R1212, with the io_latch of R1219 and the release of R1260. -/
def Obligations.StatusRead : Prop :=
  ∀ (devs : List Device) (vd : Video),
    let p := vd.ppu
    let value : Byte := BitVec.ofNat 8
      (128 * flagNat p.vbl + 64 * flagNat p.spr0Hit + 32 * flagNat p.sprOverflow + p.ioLatch.toNat % 32)
    let q := ppuRegisterRead 2 devs vd
    q.1 = value ∧
    q.2.ppu = { p with
      vblSuppress := p.vblSuppress || (decide (p.scanline = 241) && decide (p.dot = 1))
      vbl := false
      w := false
      nmiOut := false
      ioLatch := value } ∧
    q.2.bus = vd.bus ∧ q.2.nmi.edgePending = vd.nmi.edgePending ∧
    (p.nmiOut = true → q.2.nmi = vd.nmi.release Config.ppuNmiSource) ∧ (p.nmiOut = false → q.2.nmi = vd.nmi)

/-- The race table of R1212, with R1260's hold and R1400's set. -/
def Obligations.VerticalBlankRace : Prop :=
  ∀ (devs : List Device) (vd : Video),
    vd.ppu.scanline = 241 → vd.ppu.dot = 1 → vd.ppu.ctrl.getLsbD 7 = true → vd.ppu.vbl = false →
    vd.ppu.vblSuppress = false → vd.ppu.nmiOut = false → vd.nmi = { sources := [], edgePending := false } →
    let dot := ppuDot devs
    let read (v : Video) := ppuRegisterRead 2 devs v
    ((dot vd).ppu.vbl = true ∧ (dot vd).ppu.nmiOut = false ∧ (dot (dot vd)).ppu.nmiOut = false ∧
      (dot (dot (dot vd))).ppu.nmiOut = true ∧ (dot (dot (dot vd))).nmi.edgePending = true) ∧
    ((read vd).1.getLsbD 7 = false ∧ (dot (read vd).2).ppu.vbl = false ∧
      (dot (dot (dot (read vd).2))).ppu.nmiOut = false ∧ (dot (dot (dot (read vd).2))).nmi.edgePending = false) ∧
    ((read (dot vd)).1.getLsbD 7 = true ∧ (dot (dot (read (dot vd)).2)).ppu.nmiOut = false ∧
      (dot (dot (read (dot vd)).2)).nmi.edgePending = false) ∧
    ((read (dot (dot vd))).1.getLsbD 7 = true ∧ (dot (read (dot (dot vd))).2).ppu.nmiOut = false ∧
      (dot (read (dot (dot vd))).2).nmi.edgePending = false) ∧
    ((read (dot (dot (dot vd)))).1.getLsbD 7 = true ∧ (read (dot (dot (dot vd)))).2.ppu.nmiOut = false ∧
      (read (dot (dot (dot vd)))).2.nmi.edgePending = true)

/-- R1210 and R1211. -/
def Obligations.ControlAndMaskWrites : Prop :=
  ∀ (devs : List Device) (vd : Video) (v : Byte),
    let p := vd.ppu
    let c := ppuRegisterWrite 0 v devs vd
    let m := ppuRegisterWrite 1 v devs vd
    (∃ t : BitVec 15, t.extractLsb' 10 2 = v.extractLsb' 0 2 ∧ t.extractLsb' 0 10 = p.t.extractLsb' 0 10
      ∧ t.extractLsb' 12 3 = p.t.extractLsb' 12 3
      ∧ c = (devs, (updateNmi { vd with ppu := { p with ctrl := v, t := t } }).mapPpu
          fun q => { q with ioLatch := v })) ∧
    (p.scanline = 261 ∧ p.dot = 338 → m = (devs, { vd with ppu := { p with ioLatch := v } })) ∧
    (¬ (p.scanline = 261 ∧ p.dot = 338) → m = (devs, { vd with ppu := { p with mask := v, ioLatch := v } }))

/-- R1216, field by field. -/
def Obligations.ScrollAndAddressWrites : Prop :=
  ∀ (devs : List Device) (vd : Video) (val : Byte),
    let p := vd.ppu
    let s := ppuRegisterWrite 5 val devs vd
    let a := ppuRegisterWrite 6 val devs vd
    let after (q : Ppu) : List Device × Video := (devs, { vd with ppu := { q with ioLatch := val } })
    (p.w = false →
      (∃ t : BitVec 15, s = after { p with t := t, x := val.extractLsb' 0 3, w := true }
        ∧ t.extractLsb' 0 5 = val.extractLsb' 3 5 ∧ t.extractLsb' 5 10 = p.t.extractLsb' 5 10) ∧
      (∃ t : BitVec 15, a = after { p with t := t, w := true }
        ∧ t.extractLsb' 8 6 = val.extractLsb' 0 6 ∧ t.getLsbD 14 = false
        ∧ t.extractLsb' 0 8 = p.t.extractLsb' 0 8)) ∧
    (p.w = true →
      (∃ t : BitVec 15, s = after { p with t := t, w := false }
        ∧ t.extractLsb' 12 3 = val.extractLsb' 0 3 ∧ t.extractLsb' 5 5 = val.extractLsb' 3 5
        ∧ t.extractLsb' 0 5 = p.t.extractLsb' 0 5 ∧ t.extractLsb' 10 2 = p.t.extractLsb' 10 2) ∧
      (∃ t : BitVec 15, a = after { p with t := t, v := t, w := false }
        ∧ t.extractLsb' 0 8 = val ∧ t.extractLsb' 8 7 = p.t.extractLsb' 8 7))

/-- R1217. -/
def Obligations.DataPortAccesses : Prop :=
  ∀ (devs : List Device) (vd : Video) (val : Byte),
    let p := vd.ppu
    let a : Nat := p.v.toNat % 16384
    let active : Bool := (p.mask.getLsbD 3 || p.mask.getLsbD 4) && (decide (p.scanline ≤ 239) || decide (p.scanline = 261))
    let v' : BitVec 15 :=
      if active then yIncrement (coarseXIncrement p.v) else p.v + (if p.ctrl.getLsbD 2 then 32 else 1)
    let rd := ppuRegisterRead 7 devs vd
    let wr := ppuRegisterWrite 7 val devs vd
    (a < 0x3F00 →
      let r := ppuRead devs vd a
      rd = (p.readBuffer, { r.2 with ppu := { p with readBuffer := r.1, v := v', ioLatch := p.readBuffer } }) ∧
      wr = ((ppuWrite devs vd a val).1,
        { (ppuWrite devs vd a val).2 with ppu := { p with v := v', ioLatch := val } })) ∧
    (0x3F00 ≤ a →
      let r := ppuRead devs vd (a - 0x1000)
      let out : Byte := (p.ioLatch &&& 0xC0) ||| (p.paletteAt a).setWidth 8
      rd = (out, { r.2 with ppu := { p with readBuffer := r.1, v := v', ioLatch := out } }) ∧
      wr = (devs, { vd with ppu := { p.setPalette a val with v := v', ioLatch := val } }))

/-- R1213, R1214 and R1215. -/
def Obligations.OamRegisters : Prop :=
  ∀ (devs : List Device) (vd : Video) (val : Byte),
    let p := vd.ppu
    let active : Bool := (p.mask.getLsbD 3 || p.mask.getLsbD 4) && (decide (p.scanline ≤ 239) || decide (p.scanline = 261))
    let stored : Byte := if active then 0xFF else if p.oamAddr.toNat % 4 = 2 then val &&& 0xE3 else val
    ppuRegisterWrite 3 val devs vd = (devs, { vd with ppu := { p with oamAddr := val, ioLatch := val } }) ∧
    (∃ oam : Vector Byte 256,
      ppuRegisterWrite 4 val devs vd =
        (devs, { vd with ppu := { p with oam := oam, oamAddr := p.oamAddr + 1, ioLatch := val } }) ∧
      ∀ k : Fin 256, oam[k] = if k.val = p.oamAddr.toNat then stored else p.oam[k]) ∧
    (let r := ppuRegisterRead 4 devs vd
     p.oam[p.oamAddr.toNat]? = some r.1 ∧ r.2 = { vd with ppu := { p with ioLatch := r.1 } })

/-- R1218, as which addresses share a cell. The source says that indices 0, 4, 8 and 12 mirror together; that each of
0x10, 0x14, 0x18, 0x1C is the cell of 0x00, 0x04, 0x08, 0x0C instead is the spec's own reading: "This spec reads the
first clause as the standard 2C02 mirroring" (decision D28, conflict C2). -/
def Obligations.PaletteMirroring : Prop :=
  ∀ (p : Ppu) (a b : Nat) (v : Byte),
    let same : Prop := a % 32 = b % 32 ∨ (a % 4 = 0 ∧ b % 4 = 0 ∧ a % 16 = b % 16)
    (same → (p.setPalette a v).paletteAt b = v.setWidth 6) ∧
    (¬ same → (p.setPalette a v).paletteAt b = p.paletteAt b)

/-- R1200's last paragraph and R1219. -/
def Obligations.WriteOnlyRegistersAndTheIoLatch : Prop :=
  ∀ (devs : List Device) (vd : Video) (val : Byte),
    (∀ r ∈ [0, 1, 3, 5, 6], ppuRegisterRead r devs vd = (vd.ppu.ioLatch, vd)) ∧
    ppuRegisterWrite 2 val devs vd = (devs, { vd with ppu := { vd.ppu with ioLatch := val } }) ∧
    (∀ r, r < 8 → (ppuRegisterRead r devs vd).2.ppu.ioLatch = (ppuRegisterRead r devs vd).1) ∧
    (∀ r, r < 8 → (ppuRegisterWrite r val devs vd).2.ppu.ioLatch = val)

/-- R1260. -/
def Obligations.NmiOutputFollowsItsTarget : Prop :=
  (∀ vd : Video, vd.nmiWf = true →
    let p := vd.ppu
    let hold : Bool := decide (p.scanline = 241) && (decide (p.dot = 2) || decide (p.dot = 3))
    let target : Bool := p.vbl && p.ctrl.getLsbD 7 && !hold
    (updateNmi vd).ppu = { p with nmiOut := target } ∧ (updateNmi vd).bus = vd.bus ∧
    (updateNmi vd).nmi.edgePending = (vd.nmi.edgePending || (target && !p.nmiOut)) ∧
    (updateNmi vd).nmiWf = true) ∧
  (∀ (devs : List Device) (vd : Video), updateNmi (ppuDot devs vd) = ppuDot devs vd) ∧
  (∀ (devs : List Device) (vd : Video) (val : Byte),
    (ppuRegisterWrite 0 val devs vd).2.ppu.nmiOut = (ppuRegisterWrite 0 val devs vd).2.ppu.nmiTarget ∧
    (ppuRegisterRead 2 devs vd).2.ppu.nmiOut = (ppuRegisterRead 2 devs vd).2.ppu.nmiTarget)

/-- R1240, with OAMDATA's rule (R1214). MODEL'S CHOICE (log 11): the latch takes the page before the copy, so it ends as
the last byte the copy read. -/
def Obligations.OamDmaCopiesAPage : Prop :=
  (∀ (s : State) (addr : Word) (page : Byte), (resolve s.cpuBus.writes s.devices addr.toNat).isOamDma = true →
    cpuWrite addr page s = oamDma page (s.setCpuBus { s.cpuBus with openBus := page })) ∧
  ∀ (s : State) (page : Byte) (f : Byte → Byte),
    (∀ i : Byte, s.memoryByte (joinBytes page i) = some (f i)) →
    let p := s.video.ppu
    let t := oamDma page s
    (∀ i : Byte, (t.video.ppu.oamAt (p.oamAddr + i)) =
      if p.renderingActive then 0xFF else if (p.oamAddr + i).toNat % 4 = 2 then f i &&& 0xE3 else f i) ∧
    t.video.ppu = { p with oam := t.video.ppu.oam, ioLatch := f 255 } ∧ t.video.bus = s.video.bus ∧
    t.video.nmi = s.video.nmi ∧ t.cpuBus = { s.cpuBus with openBus := f 255 } ∧
    t.sched = { s.sched with
      cpu := { s.sched.cpu with skip := s.sched.cpu.skip + (if s.sched.cpuCycles % 2 = 0 then 513 else 514) } } ∧
    t.cpu = s.cpu ∧ t.devices = s.devices ∧ t.irq = s.irq ∧ t.diagnostics = s.diagnostics

/-- R1330, with the example of S9, and R1331. -/
def Obligations.ScrollIncrementsWrap : Prop :=
  ∀ v : BitVec 15,
    (coarseXIncrement v &&& 0x7BE0 = v &&& 0x7BE0) ∧ (Nat.iterate coarseXIncrement 32 v = v ^^^ 0x0400) ∧
    (yIncrement v &&& 0x041F = v &&& 0x041F) ∧
    (v &&& 0x73E0 = 0 → Nat.iterate yIncrement 240 v = v ^^^ 0x0800) ∧
    (v &&& 0x73E0 = 0x73E0 → yIncrement v = v &&& 0x0C1F)

/-- R1310 through whole dots (R1300). -/
def Obligations.DotsAdvanceThePosition : Prop :=
  (∀ (devs : List Device) (vd : Video), vd.ppu.scanline ≤ 261 → vd.ppu.dot ≤ 340 →
    let p := vd.ppu
    let q := (ppuDot devs vd).ppu
    let skip : Prop := p.scanline = 261 ∧ p.dot = 339 ∧ p.oddFrame = true ∧ p.renderingEnabled = true
    (skip → q.scanline = 0 ∧ q.dot = 0 ∧ q.oddFrame = false) ∧
    (¬ skip → p.dot < 340 → q.scanline = p.scanline ∧ q.dot = p.dot + 1 ∧ q.oddFrame = p.oddFrame) ∧
    (p.dot = 340 → p.scanline < 261 → q.scanline = p.scanline + 1 ∧ q.dot = 0 ∧ q.oddFrame = p.oddFrame) ∧
    (p.dot = 340 → p.scanline = 261 → q.scanline = 0 ∧ q.dot = 0 ∧ q.oddFrame = !p.oddFrame)) ∧
  (∀ (devs : List Device) (vd : Video) (n : Nat), vd.ppu.scanline ≤ 261 → vd.ppu.dot ≤ 340 →
    vd.ppu.renderingEnabled = false →
    let index (p : Ppu) : Nat := 341 * p.scanline + p.dot
    index (Nat.iterate (ppuDot devs) n vd).ppu = (index vd.ppu + n) % 89342)

/-- R1400, R1401, R1421 and R1430 through whole dots. -/
def Obligations.StatusFlagsChangeAtTheirDots : Prop :=
  ∀ (devs : List Device) (vd : Video),
    let p := vd.ppu
    let q := (ppuDot devs vd).ppu
    (p.scanline = 241 ∧ p.dot = 1 → q.vbl = (p.vbl || !p.vblSuppress) ∧ q.vblSuppress = false) ∧
    (p.scanline = 261 ∧ p.dot = 1 → q.vbl = false ∧ q.spr0Hit = false ∧ q.sprOverflow = false
      ∧ q.vblSuppress = p.vblSuppress) ∧
    (¬ ((p.scanline = 241 ∨ p.scanline = 261) ∧ p.dot = 1) → q.vbl = p.vbl ∧ q.vblSuppress = p.vblSuppress) ∧
    (¬ (p.scanline = 261 ∧ p.dot = 1) →
      (p.spr0Hit = true → q.spr0Hit = true) ∧ (p.sprOverflow = true → q.sprOverflow = true)) ∧
    (p.spr0Hit = false → q.spr0Hit = true →
      p.scanline ≤ 239 ∧ 1 ≤ p.dot ∧ p.dot ≤ 255 ∧ p.bgOn = true ∧ p.sprOn = true ∧ p.spr0Line = true
        ∧ 0 < p.sprCountLine ∧ (p.unitAt 0).pixel (p.dot - 1) ≠ 0
        ∧ ((p.bgShiftAndReload p.dot).bgPixel (p.dot - 1)).1 ≠ 0) ∧
    (p.sprOverflow = false → q.sprOverflow = true →
      p.scanline ≤ 239 ∧ 66 ≤ p.dot ∧ p.dot ≤ 256 ∧ p.dot % 2 = 0 ∧ p.renderingEnabled = true
        ∧ p.evalPhase = .overflow)

/-- The last paragraph of R1300, with R1441 and R1442. -/
def Obligations.DisabledRenderingOnlyOutputsTheBackdrop : Prop :=
  ∀ (devs : List Device) (vd : Video), vd.ppu.mask.getLsbD 3 = false → vd.ppu.mask.getLsbD 4 = false →
    let p := vd.ppu
    let r := ppuDot devs vd
    let q := r.ppu
    let colour : BitVec 6 := if p.mask.getLsbD 0 then p.paletteAt 0 &&& 0x30 else p.paletteAt 0
    r.bus = vd.bus ∧
    q = { p with
      scanline := q.scanline, dot := q.dot, oddFrame := q.oddFrame, vbl := q.vbl, vblSuppress := q.vblSuppress
      spr0Hit := q.spr0Hit, sprOverflow := q.sprOverflow, nmiOut := q.nmiOut, framebuffer := q.framebuffer } ∧
    (p.scanline ≤ 239 ∧ 1 ≤ p.dot ∧ p.dot ≤ 256 →
      q.framebuffer = p.framebuffer.set (256 * p.scanline + (p.dot - 1)) colour) ∧
    (¬ (p.scanline ≤ 239 ∧ 1 ≤ p.dot ∧ p.dot ≤ 256) → q.framebuffer = p.framebuffer)

/-- R1320, R1321 and R1330 to R1333 at the dots of R1302, through whole dots, the addresses in plain arithmetic on the
fields of `v` (R134). -/
def Obligations.BackgroundAndScrollDots : Prop :=
  ∀ (devs : List Device) (vd : Video), (vd.ppu.scanline ≤ 239 ∨ vd.ppu.scanline = 261) → vd.ppu.dot ≤ 340 →
    (vd.ppu.mask.getLsbD 3 = true ∨ vd.ppu.mask.getLsbD 4 = true) →
    let p := vd.ppu
    let r := ppuDot devs vd
    let q := r.ppu
    let d := p.dot
    let cx := p.v.toNat % 32
    let cy := p.v.toNat / 32 % 32
    let nt := ppuRead devs vd (0x2000 + p.v.toNat % 4096)
    let at' := ppuRead devs vd (0x23C0 + 1024 * (p.v.toNat / 1024 % 4) + 8 * (cy / 4) + cx / 4)
    let row := (if p.ctrl.getLsbD 4 then 4096 else 0) + 16 * p.ntByte.toNat + p.v.toNat / 4096
    let low := ppuRead devs vd row
    let high := ppuRead devs vd (row + 8)
    let tile : Prop := (1 ≤ d ∧ d ≤ 256) ∨ (321 ≤ d ∧ d ≤ 336)
    let shifts : Bool := (decide (2 ≤ d) && decide (d ≤ 257)) || (decide (322 ≤ d) && decide (d ≤ 337))
    let reloads : Bool := (decide (9 ≤ d) && decide (d ≤ 257) && decide (d % 8 = 1)) || decide (d = 329) || decide (d = 337)
    let shifted (n : Nat) : Nat := if shifts then 2 * n % 65536 else n
    let pipe (before after : BitVec 16) (tileByte : Byte) : Prop :=
      after.toNat = if reloads then shifted before.toNat / 256 * 256 + tileByte.toNat else shifted before.toNat
    ((tile ∧ d % 8 = 2 → r.bus = nt.2.bus ∧ q.ntByte = nt.1) ∧
      (tile ∧ d % 8 = 4 → r.bus = at'.2.bus ∧ q.atBits.toNat = at'.1.toNat / 2 ^ (4 * (cy / 2 % 2) + 2 * (cx / 2 % 2)) % 4) ∧
      (tile ∧ d % 8 = 6 → r.bus = low.2.bus ∧ q.ptLo = low.1) ∧
      (tile ∧ d % 8 = 0 → r.bus = high.2.bus ∧ q.ptHi = high.1) ∧
      (d = 338 ∨ d = 340 → r.bus = nt.2.bus) ∧ (d % 2 = 1 ∨ d = 0 → r.bus = vd.bus) ∧
      (¬ (tile ∧ d % 8 = 2) → q.ntByte = p.ntByte) ∧ (¬ (tile ∧ d % 8 = 4) → q.atBits = p.atBits) ∧
      (¬ (tile ∧ d % 8 = 6) → q.ptLo = p.ptLo) ∧ (¬ (tile ∧ d % 8 = 0) → q.ptHi = p.ptHi)) ∧
    (pipe p.bgLo q.bgLo p.ptLo ∧ pipe p.bgHi q.bgHi p.ptHi ∧
      pipe p.atLo q.atLo (if p.atBits.getLsbD 0 then 0xFF else 0) ∧
      pipe p.atHi q.atHi (if p.atBits.getLsbD 1 then 0xFF else 0)) ∧
    ((d = 256 → q.v = yIncrement (coarseXIncrement p.v)) ∧
      ((8 ≤ d ∧ d < 256 ∧ d % 8 = 0) ∨ d = 328 ∨ d = 336 → q.v = coarseXIncrement p.v) ∧
      (d = 257 → q.v.extractLsb' 0 5 = p.t.extractLsb' 0 5 ∧ q.v.getLsbD 10 = p.t.getLsbD 10
        ∧ q.v.extractLsb' 5 5 = p.v.extractLsb' 5 5 ∧ q.v.extractLsb' 11 4 = p.v.extractLsb' 11 4) ∧
      (p.scanline = 261 ∧ 280 ≤ d ∧ d ≤ 304 → q.v.extractLsb' 5 5 = p.t.extractLsb' 5 5
        ∧ q.v.extractLsb' 11 4 = p.t.extractLsb' 11 4 ∧ q.v.extractLsb' 0 5 = p.v.extractLsb' 0 5
        ∧ q.v.getLsbD 10 = p.v.getLsbD 10) ∧
      (¬ ((8 ≤ d ∧ d ≤ 256 ∧ d % 8 = 0) ∨ d = 328 ∨ d = 336 ∨ d = 257) →
        ¬ (p.scanline = 261 ∧ 280 ≤ d ∧ d ≤ 304) → q.v = p.v) ∧
      q.t = p.t ∧ q.x = p.x ∧ q.w = p.w)

/-- R1420 and R1421 over the 257 dots that evaluate a line, as what they compute. -/
def Obligations.SpriteEvaluationOfALine : Prop :=
  ∀ (devs : List Device) (vd : Video), vd.ppu.scanline ≤ 239 → vd.ppu.dot = 1 →
    (vd.ppu.mask.getLsbD 3 = true ∨ vd.ppu.mask.getLsbD 4 = true) →
    let p := vd.ppu
    let q := (Nat.iterate (ppuDot devs) 257 vd).ppu
    let height : Nat := if p.ctrl.getLsbD 5 then 16 else 8
    let inRange (y : Byte) : Bool := decide (y.toNat ≤ p.scanline) && decide (p.scanline < y.toNat + height)
    let hits : List Nat := (List.range 64).filter fun n => inRange (p.oamByte (4 * n))
    let found : List Nat := hits.take 8
    q.scanline = p.scanline ∧ q.dot = 258 ∧ q.oam = p.oam ∧
    q.sprCountLine = found.length ∧ q.spr0Line = inRange (p.oamByte 0) ∧
    (∀ i k n, found[i]? = some n → k < 4 → q.oam2[4 * i + k]? = some (p.oamByte (4 * n + k))) ∧
    (∀ k, 4 * found.length < k → k < 32 → q.oam2[k]? = some 0xFF) ∧
    (q.sprOverflow = true ↔ p.sprOverflow = true ∨
      ∃ n j, hits[7]? = some n ∧ n + 1 + j < 64 ∧ inRange (p.oamByte (4 * (n + 1 + j) + j % 4)) = true)

/-- R1422 and R1423 through whole dots. The formulas of R1422 are on integers, also where `spr_16` has changed since the
evaluation (log 22); the low byte is the last one fetched at a 6th dot (log 34). -/
def Obligations.SpriteFetchDots : Prop :=
  (∀ (devs : List Device) (vd : Video),
    (ppuDot devs vd).ppu.oamAddr =
      if vd.ppu.renderingEnabled && isRenderLine vd.ppu.scanline && decide (257 ≤ vd.ppu.dot) && decide (vd.ppu.dot ≤ 320)
      then 0 else vd.ppu.oamAddr) ∧
  (∀ (devs : List Device) (vd : Video), vd.ppu.scanline = 261 →
    let p := vd.ppu
    let q := (ppuDot devs vd).ppu
    q.oam2 = p.oam2 ∧ q.evalN = p.evalN ∧ q.evalM = p.evalM ∧ q.evalFound = p.evalFound ∧ q.evalPhase = p.evalPhase
      ∧ q.spr0Next = p.spr0Next) ∧
  (∀ (devs : List Device) (vd : Video), (vd.ppu.scanline ≤ 239 ∨ vd.ppu.scanline = 261) → 257 ≤ vd.ppu.dot →
    vd.ppu.dot ≤ 320 → (vd.ppu.mask.getLsbD 3 = true ∨ vd.ppu.mask.getLsbD 4 = true) →
    let p := vd.ppu
    let r := ppuDot devs vd
    let q := r.ppu
    let i := (p.dot - 257) / 8
    let o := (p.dot - 257) % 8
    let empty : Bool := decide (p.sprCountLine ≤ i)
    let tall : Bool := p.ctrl.getLsbD 5
    let table : Int := if p.ctrl.getLsbD 3 then 4096 else 0
    let tile : Int := ((p.oam2Byte (4 * i + 1)).toNat : Int)
    let attr := p.oam2Byte (4 * i + 2)
    let line : Int := (p.scanline : Int) - ((p.oam2Byte (4 * i)).toNat : Int)
    let row : Int := if attr.getLsbD 7 then (if tall then 15 else 7) - line else line
    let addr : Int :=
      if empty then (if tall then 0x1FF0 else table + 0x0FF0)
      else if tall then 4096 * (tile % 2) + 16 * (tile - tile % 2) + (if 8 ≤ row then 16 else 0) + row % 8
      else table + 16 * tile + row
    let pattern (b : Byte) : Byte := if empty then 0 else if attr.getLsbD 6 then b.reverse else b
    let low := ppuRead devs vd (addr % 16384).toNat
    let high := ppuRead devs vd ((addr + 8) % 16384).toNat
    (o % 2 = 0 → r.bus = vd.bus) ∧
    (o = 1 ∨ o = 3 → r.bus = (ppuRead devs vd (0x2000 + q.v.toNat % 4096)).2.bus) ∧
    (o = 5 → r.bus = low.2.bus ∧ q.sprFetchLo = low.1) ∧
    (o = 7 → r.bus = high.2.bus ∧ q.units[i]? =
      some { lo := pattern p.sprFetchLo, hi := pattern high.1, attr := attr, x := p.oam2Byte (4 * i + 3) }) ∧
    (o ≠ 5 → q.sprFetchLo = p.sprFetchLo) ∧ (∀ j, j ≠ i ∨ o ≠ 7 → q.units[j]? = p.units[j]?) ∧ q.oam2 = p.oam2 ∧
    (p.dot ≠ 257 → q.sprCountLine = p.sprCountLine ∧ q.spr0Line = p.spr0Line) ∧
    (p.dot = 257 → p.scanline ≤ 239 → q.sprCountLine = p.evalFound ∧ q.spr0Line = p.spr0Next) ∧
    (p.dot = 257 → p.scanline = 261 → q.sprCountLine = 0 ∧ q.spr0Line = false))

/-- R1440, R1430 and R1441 through whole dots, the first opaque sprite as a property of its unit. -/
def Obligations.PixelPriorityAndSpriteZeroHit : Prop :=
  ∀ (devs : List Device) (vd : Video), vd.ppu.scanline ≤ 239 → 1 ≤ vd.ppu.dot → vd.ppu.dot ≤ 256 →
    (vd.ppu.mask.getLsbD 3 = true ∨ vd.ppu.mask.getLsbD 4 = true) →
    let p := vd.ppu
    let q := (ppuDot devs vd).ppu
    let col := p.dot - 1
    let bgShown : Bool := p.mask.getLsbD 3 && (decide (8 ≤ col) || p.mask.getLsbD 1)
    let sprShown : Bool := p.mask.getLsbD 4 && (decide (8 ≤ col) || p.mask.getLsbD 2)
    let bit (r : BitVec 16) : Nat := flagNat (r.getLsbD (15 - p.x.toNat))
    let bg : Nat := if bgShown then 2 * bit q.bgHi + bit q.bgLo else 0
    let bgEntry : Nat := if bg = 0 then 0 else 4 * (2 * bit q.atHi + bit q.atLo) + bg
    let spr (i : Nat) : Nat :=
      let u := p.unitAt i
      if u.x.toNat ≤ col ∧ col < u.x.toNat + 8 then
        2 * flagNat (u.hi.getLsbD (u.x.toNat + 7 - col)) + flagNat (u.lo.getLsbD (u.x.toNat + 7 - col))
      else 0
    let opaqueAt (i : Nat) : Prop := sprShown = true ∧ i < p.sprCountLine ∧ spr i ≠ 0
    let shows (entry : Nat) : Prop :=
      q.framebuffer = p.framebuffer.set (256 * p.scanline + col)
        (if p.mask.getLsbD 0 then p.paletteAt entry &&& 0x30 else p.paletteAt entry)
    ((∀ i, ¬ opaqueAt i) → shows bgEntry) ∧
    (∀ i, opaqueAt i → (∀ j, j < i → ¬ opaqueAt j) →
      shows (if bg = 0 ∨ (p.unitAt i).attr.getLsbD 5 = false then 16 + 4 * ((p.unitAt i).attr.toNat % 4) + spr i
        else bgEntry)) ∧
    (q.spr0Hit = true ↔ p.spr0Hit = true ∨
      (p.spr0Line = true ∧ opaqueAt 0 ∧ bg ≠ 0 ∧ col ≠ 255)) ∧
    q.palette = p.palette

/-- R1101 and R1120. -/
def Obligations.ReceiversFireEveryDivisorTicks : Prop :=
  (∀ (r : Receiver) (n : Nat), 1 ≤ r.divisor → r.countdown = r.divisor →
    let after (k : Nat) : Receiver := Nat.iterate (fun q : Receiver => q.tick.1) k r
    ((List.range n).filter fun k => (after k).tick.2).length = n / r.divisor
      ∧ (after n).divisor = r.divisor ∧ (after n).skip = r.skip ∧ (after n).countdown = r.divisor - n % r.divisor) ∧
  (∀ r : Receiver, (r.skip = 0 → r.activate = (r, true)) ∧
    (0 < r.skip → r.activate = ({ r with skip := r.skip - 1 }, false)) ∧
    ∀ n, r.requestSkip n = { r with skip := r.skip + n })

/-- R1110, R1111 and R1120 for one pass of R1130. -/
def Obligations.OnePassIsThreeDotsThenOneCycle : Prop :=
  ∀ s : State, s.ready = true → s.sched.wf = true → s.sched.cpu.countdown = 12 → s.sched.ppu.countdown = 4 →
    let dots := s.setVideo (Nat.iterate (ppuDot s.devices) 3 s.video)
    let sched (skip : Nat) : Sched :=
      { s.sched with
        masterTick := s.sched.masterTick + 12
        cpuCycles := s.sched.cpuCycles + 1
        cpu := { s.sched.cpu with skip := skip } }
    (s.sched.cpu.skip = 0 → stepWhole s = cpuCycle (dots.setSched (sched 0))) ∧
    (0 < s.sched.cpu.skip → stepWhole s = dots.setSched (sched (s.sched.cpu.skip - 1)))

/-- The soft reset column of R160 (R1131). MODEL'S CHOICE (log 31): the diagnostics, and inside the two address spaces the
Fault record and the counter of free values, are kept; R160 has no row for them. -/
def Obligations.SoftResetKeepsAndRestarts : Prop :=
  ∀ s : State,
    let t := softReset s
    let p := s.video.ppu
    let q := t.video.ppu
    t.cpu.regs = { s.cpu.regs with p := { s.cpu.p with i := true } } ∧ t.cpu.irqInhibit = false ∧
    t.cpu.phase = .reset ∧ t.cpu.cycle = 1 ∧ t.devices = s.devices ∧ t.cpuBus = s.cpuBus ∧ t.irq = s.irq ∧
    t.video.bus = s.video.bus ∧ t.diagnostics = s.diagnostics ∧
    t.sched = { masterTick := 0, cpuCycles := s.sched.cpuCycles
                cpu := { divisor := s.sched.cpu.divisor, countdown := s.sched.cpu.divisor, skip := 0 }
                ppu := { divisor := s.sched.ppu.divisor, countdown := s.sched.ppu.divisor, skip := 0 } } ∧
    (q.vbl = p.vbl ∧ q.spr0Hit = p.spr0Hit ∧ q.sprOverflow = p.sprOverflow ∧ q.oamAddr = p.oamAddr ∧ q.v = p.v ∧
      q.ioLatch = p.ioLatch ∧ q.oam = p.oam ∧ q.palette = p.palette ∧ q.oam2 = p.oam2 ∧
      q.framebuffer = p.framebuffer) ∧
    (q.ctrl = 0 ∧ q.mask = 0 ∧ q.t = 0 ∧ q.x = 0 ∧ q.w = false ∧ q.readBuffer = 0 ∧ q.scanline = 0 ∧ q.dot = 0 ∧
      q.oddFrame = false ∧ q.nmiOut = false ∧ q.vblSuppress = false ∧ q.sprCountLine = 0 ∧ q.evalFound = 0 ∧
      q.evalPhase = .done) ∧
    t.video.nmi.edgePending = false ∧ Config.ppuNmiSource ∉ t.video.nmi.sources ∧
    (s.safe = true → t.safe = true)

/-- The power-up column of R160 (R1132). MODEL'S CHOICES: A, X and Y at 0 (log 2), I at 1 before the reset sequence
(log 3), RAM, OAM and palette at 0 (log 4), the diagnostics kept (log 31), spr0_next (log 33) and the saved sprite byte
(log 34) at 0. -/
def Obligations.PowerCycleTakesThePowerUpColumn : Prop :=
  ∀ s : State,
    let t := powerCycle s
    let q := t.video.ppu
    t.cpu.regs = { a := 0, x := 0, y := 0, s := 0, pc := 0,
                   p := { c := false, z := false, i := true, d := false, v := false, n := false } } ∧
    t.cpu.irqInhibit = false ∧ t.cpu.phase = .reset ∧ t.cpu.cycle = 1 ∧
    t.sched = { masterTick := 0, cpuCycles := 0, cpu := { divisor := 12, countdown := 12, skip := 0 }
                ppu := { divisor := 4, countdown := 4, skip := 0 } } ∧
    t.irq.sources = [] ∧ t.video.nmi = { sources := [], edgePending := false } ∧
    t.cpuBus.openBus = 0 ∧ t.video.bus.openBus = 0 ∧ t.faulted = false ∧
    t.cpuBus.reads = s.cpuBus.reads ∧ t.cpuBus.writes = s.cpuBus.writes ∧
    t.video.bus.reads = s.video.bus.reads ∧ t.video.bus.writes = s.video.bus.writes ∧
    t.diagnostics = s.diagnostics ∧
    (q.ctrl = 0 ∧ q.mask = 0 ∧ q.vbl = false ∧ q.spr0Hit = false ∧ q.sprOverflow = false ∧ q.oamAddr = 0 ∧ q.v = 0 ∧
      q.t = 0 ∧ q.x = 0 ∧ q.w = false ∧ q.readBuffer = 0 ∧ q.ioLatch = 0) ∧
    (q.ntByte = 0 ∧ q.atBits = 0 ∧ q.ptLo = 0 ∧ q.ptHi = 0 ∧ q.bgLo = 0 ∧ q.bgHi = 0 ∧ q.atLo = 0 ∧ q.atHi = 0 ∧
      q.spr0Line = false ∧ q.sprCountLine = 0 ∧ q.evalN = 0 ∧ q.evalM = 0 ∧ q.evalFound = 0 ∧ q.evalPhase = .done ∧
      q.spr0Next = false ∧ q.sprFetchLo = 0) ∧
    (q.scanline = 0 ∧ q.dot = 0 ∧ q.oddFrame = false ∧ q.nmiOut = false ∧ q.vblSuppress = false) ∧
    (∀ i : Fin 8, q.units[i] = { lo := 0, hi := 0, attr := 0, x := 0 }) ∧ (∀ i : Fin 32, q.oam2[i] = 0xFF) ∧
    (∀ i : Byte, q.oamAt i = 0) ∧ (∀ a, q.paletteAt a = 0) ∧ (∀ k, q.framebuffer.get k = 0) ∧
    t.devices.length = s.devices.length ∧
    (∀ (id : Nat) (d : Device), s.devices[id]? = some d → ∃ e : Device, t.devices[id]? = some e ∧ e = { d with cells := e.cells }
      ∧ (d.kind = .ram → ∀ off, e.byteAt off = 0) ∧ (d.kind ≠ .ram → e = d)) ∧
    (s.busFits = true → s.memoryWf = true → t.safe = true)
end

