-- ==== Sys2Proof/Laws/State.lean ====
section
/-! SUPPORT. One lemma per field per update function: what an update leaves and what it changes, so that no proof
unfolds a record update. -/

namespace Sys2Proof.Machine

/-! ## State -/

@[simp] theorem State.setCpu_cpu (s : State) (c : Cpu) : (s.setCpu c).cpu = c := rfl
@[simp] theorem State.setCpu_cpuBus (s : State) (c : Cpu) : (s.setCpu c).cpuBus = s.cpuBus := rfl
@[simp] theorem State.setCpu_devices (s : State) (c : Cpu) : (s.setCpu c).devices = s.devices := rfl
@[simp] theorem State.setCpu_irq (s : State) (c : Cpu) : (s.setCpu c).irq = s.irq := rfl
@[simp] theorem State.setCpu_video (s : State) (c : Cpu) : (s.setCpu c).video = s.video := rfl
@[simp] theorem State.setCpu_sched (s : State) (c : Cpu) : (s.setCpu c).sched = s.sched := rfl
@[simp] theorem State.setCpu_diagnostics (s : State) (c : Cpu) : (s.setCpu c).diagnostics = s.diagnostics := rfl
@[simp] theorem State.mapCpu_cpu (s : State) (f : Cpu → Cpu) : (s.mapCpu f).cpu = f s.cpu := rfl
@[simp] theorem State.mapCpu_cpuBus (s : State) (f : Cpu → Cpu) : (s.mapCpu f).cpuBus = s.cpuBus := rfl
@[simp] theorem State.mapCpu_devices (s : State) (f : Cpu → Cpu) : (s.mapCpu f).devices = s.devices := rfl
@[simp] theorem State.mapCpu_irq (s : State) (f : Cpu → Cpu) : (s.mapCpu f).irq = s.irq := rfl
@[simp] theorem State.mapCpu_video (s : State) (f : Cpu → Cpu) : (s.mapCpu f).video = s.video := rfl
@[simp] theorem State.mapCpu_sched (s : State) (f : Cpu → Cpu) : (s.mapCpu f).sched = s.sched := rfl
@[simp] theorem State.mapCpu_diagnostics (s : State) (f : Cpu → Cpu) : (s.mapCpu f).diagnostics = s.diagnostics := rfl
@[simp] theorem State.setCpuBus_cpu (s : State) (b : AddressSpace) : (s.setCpuBus b).cpu = s.cpu := rfl
@[simp] theorem State.setCpuBus_cpuBus (s : State) (b : AddressSpace) : (s.setCpuBus b).cpuBus = b := rfl
@[simp] theorem State.setCpuBus_devices (s : State) (b : AddressSpace) : (s.setCpuBus b).devices = s.devices := rfl
@[simp] theorem State.setCpuBus_irq (s : State) (b : AddressSpace) : (s.setCpuBus b).irq = s.irq := rfl
@[simp] theorem State.setCpuBus_video (s : State) (b : AddressSpace) : (s.setCpuBus b).video = s.video := rfl
@[simp] theorem State.setCpuBus_sched (s : State) (b : AddressSpace) : (s.setCpuBus b).sched = s.sched := rfl
@[simp] theorem State.setCpuBus_diagnostics (s : State) (b : AddressSpace) : (s.setCpuBus b).diagnostics = s.diagnostics := rfl
@[simp] theorem State.setDevices_cpu (s : State) (d : List Device) : (s.setDevices d).cpu = s.cpu := rfl
@[simp] theorem State.setDevices_cpuBus (s : State) (d : List Device) : (s.setDevices d).cpuBus = s.cpuBus := rfl
@[simp] theorem State.setDevices_devices (s : State) (d : List Device) : (s.setDevices d).devices = d := rfl
@[simp] theorem State.setDevices_irq (s : State) (d : List Device) : (s.setDevices d).irq = s.irq := rfl
@[simp] theorem State.setDevices_video (s : State) (d : List Device) : (s.setDevices d).video = s.video := rfl
@[simp] theorem State.setDevices_sched (s : State) (d : List Device) : (s.setDevices d).sched = s.sched := rfl
@[simp] theorem State.setDevices_diagnostics (s : State) (d : List Device) : (s.setDevices d).diagnostics = s.diagnostics := rfl
@[simp] theorem State.setIrq_cpu (s : State) (l : IrqLine) : (s.setIrq l).cpu = s.cpu := rfl
@[simp] theorem State.setIrq_cpuBus (s : State) (l : IrqLine) : (s.setIrq l).cpuBus = s.cpuBus := rfl
@[simp] theorem State.setIrq_devices (s : State) (l : IrqLine) : (s.setIrq l).devices = s.devices := rfl
@[simp] theorem State.setIrq_irq (s : State) (l : IrqLine) : (s.setIrq l).irq = l := rfl
@[simp] theorem State.setIrq_video (s : State) (l : IrqLine) : (s.setIrq l).video = s.video := rfl
@[simp] theorem State.setIrq_sched (s : State) (l : IrqLine) : (s.setIrq l).sched = s.sched := rfl
@[simp] theorem State.setIrq_diagnostics (s : State) (l : IrqLine) : (s.setIrq l).diagnostics = s.diagnostics := rfl
@[simp] theorem State.setVideo_cpu (s : State) (v : Video) : (s.setVideo v).cpu = s.cpu := rfl
@[simp] theorem State.setVideo_cpuBus (s : State) (v : Video) : (s.setVideo v).cpuBus = s.cpuBus := rfl
@[simp] theorem State.setVideo_devices (s : State) (v : Video) : (s.setVideo v).devices = s.devices := rfl
@[simp] theorem State.setVideo_irq (s : State) (v : Video) : (s.setVideo v).irq = s.irq := rfl
@[simp] theorem State.setVideo_video (s : State) (v : Video) : (s.setVideo v).video = v := rfl
@[simp] theorem State.setVideo_sched (s : State) (v : Video) : (s.setVideo v).sched = s.sched := rfl
@[simp] theorem State.setVideo_diagnostics (s : State) (v : Video) : (s.setVideo v).diagnostics = s.diagnostics := rfl
@[simp] theorem State.setSched_cpu (s : State) (c : Sched) : (s.setSched c).cpu = s.cpu := rfl
@[simp] theorem State.setSched_cpuBus (s : State) (c : Sched) : (s.setSched c).cpuBus = s.cpuBus := rfl
@[simp] theorem State.setSched_devices (s : State) (c : Sched) : (s.setSched c).devices = s.devices := rfl
@[simp] theorem State.setSched_irq (s : State) (c : Sched) : (s.setSched c).irq = s.irq := rfl
@[simp] theorem State.setSched_video (s : State) (c : Sched) : (s.setSched c).video = s.video := rfl
@[simp] theorem State.setSched_sched (s : State) (c : Sched) : (s.setSched c).sched = c := rfl
@[simp] theorem State.setSched_diagnostics (s : State) (c : Sched) : (s.setSched c).diagnostics = s.diagnostics := rfl
@[simp] theorem State.logDiagnostic_cpu (s : State) (d : Diagnostic) : (s.logDiagnostic d).cpu = s.cpu := rfl
@[simp] theorem State.logDiagnostic_cpuBus (s : State) (d : Diagnostic) : (s.logDiagnostic d).cpuBus = s.cpuBus := rfl
@[simp] theorem State.logDiagnostic_devices (s : State) (d : Diagnostic) : (s.logDiagnostic d).devices = s.devices := rfl
@[simp] theorem State.logDiagnostic_irq (s : State) (d : Diagnostic) : (s.logDiagnostic d).irq = s.irq := rfl
@[simp] theorem State.logDiagnostic_video (s : State) (d : Diagnostic) : (s.logDiagnostic d).video = s.video := rfl
@[simp] theorem State.logDiagnostic_sched (s : State) (d : Diagnostic) : (s.logDiagnostic d).sched = s.sched := rfl
@[simp] theorem State.logDiagnostic_diagnostics (s : State) (d : Diagnostic) : (s.logDiagnostic d).diagnostics = d :: s.diagnostics := rfl

/-! ## Cpu -/

@[simp] theorem Cpu.setA_a (c : Cpu) (v : Byte) : (c.setA v).a = v := rfl
@[simp] theorem Cpu.setA_x (c : Cpu) (v : Byte) : (c.setA v).x = c.x := rfl
@[simp] theorem Cpu.setA_y (c : Cpu) (v : Byte) : (c.setA v).y = c.y := rfl
@[simp] theorem Cpu.setA_s (c : Cpu) (v : Byte) : (c.setA v).s = c.s := rfl
@[simp] theorem Cpu.setA_p (c : Cpu) (v : Byte) : (c.setA v).p = c.p := rfl
@[simp] theorem Cpu.setA_pc (c : Cpu) (v : Byte) : (c.setA v).pc = c.pc := rfl
@[simp] theorem Cpu.setA_irqInhibit (c : Cpu) (v : Byte) : (c.setA v).irqInhibit = c.irqInhibit := rfl
@[simp] theorem Cpu.setA_phase (c : Cpu) (v : Byte) : (c.setA v).phase = c.phase := rfl
@[simp] theorem Cpu.setA_cycle (c : Cpu) (v : Byte) : (c.setA v).cycle = c.cycle := rfl
@[simp] theorem Cpu.setA_opcode (c : Cpu) (v : Byte) : (c.setA v).opcode = c.opcode := rfl
@[simp] theorem Cpu.setA_lo (c : Cpu) (v : Byte) : (c.setA v).lo = c.lo := rfl
@[simp] theorem Cpu.setA_hi (c : Cpu) (v : Byte) : (c.setA v).hi = c.hi := rfl
@[simp] theorem Cpu.setA_ptr (c : Cpu) (v : Byte) : (c.setA v).ptr = c.ptr := rfl
@[simp] theorem Cpu.setA_ea (c : Cpu) (v : Byte) : (c.setA v).ea = c.ea := rfl
@[simp] theorem Cpu.setA_val (c : Cpu) (v : Byte) : (c.setA v).val = c.val := rfl
@[simp] theorem Cpu.setA_offset (c : Cpu) (v : Byte) : (c.setA v).offset = c.offset := rfl
@[simp] theorem Cpu.setA_crossed (c : Cpu) (v : Byte) : (c.setA v).crossed = c.crossed := rfl
@[simp] theorem Cpu.setX_a (c : Cpu) (v : Byte) : (c.setX v).a = c.a := rfl
@[simp] theorem Cpu.setX_x (c : Cpu) (v : Byte) : (c.setX v).x = v := rfl
@[simp] theorem Cpu.setX_y (c : Cpu) (v : Byte) : (c.setX v).y = c.y := rfl
@[simp] theorem Cpu.setX_s (c : Cpu) (v : Byte) : (c.setX v).s = c.s := rfl
@[simp] theorem Cpu.setX_p (c : Cpu) (v : Byte) : (c.setX v).p = c.p := rfl
@[simp] theorem Cpu.setX_pc (c : Cpu) (v : Byte) : (c.setX v).pc = c.pc := rfl
@[simp] theorem Cpu.setX_irqInhibit (c : Cpu) (v : Byte) : (c.setX v).irqInhibit = c.irqInhibit := rfl
@[simp] theorem Cpu.setX_phase (c : Cpu) (v : Byte) : (c.setX v).phase = c.phase := rfl
@[simp] theorem Cpu.setX_cycle (c : Cpu) (v : Byte) : (c.setX v).cycle = c.cycle := rfl
@[simp] theorem Cpu.setX_opcode (c : Cpu) (v : Byte) : (c.setX v).opcode = c.opcode := rfl
@[simp] theorem Cpu.setX_lo (c : Cpu) (v : Byte) : (c.setX v).lo = c.lo := rfl
@[simp] theorem Cpu.setX_hi (c : Cpu) (v : Byte) : (c.setX v).hi = c.hi := rfl
@[simp] theorem Cpu.setX_ptr (c : Cpu) (v : Byte) : (c.setX v).ptr = c.ptr := rfl
@[simp] theorem Cpu.setX_ea (c : Cpu) (v : Byte) : (c.setX v).ea = c.ea := rfl
@[simp] theorem Cpu.setX_val (c : Cpu) (v : Byte) : (c.setX v).val = c.val := rfl
@[simp] theorem Cpu.setX_offset (c : Cpu) (v : Byte) : (c.setX v).offset = c.offset := rfl
@[simp] theorem Cpu.setX_crossed (c : Cpu) (v : Byte) : (c.setX v).crossed = c.crossed := rfl
@[simp] theorem Cpu.setY_a (c : Cpu) (v : Byte) : (c.setY v).a = c.a := rfl
@[simp] theorem Cpu.setY_x (c : Cpu) (v : Byte) : (c.setY v).x = c.x := rfl
@[simp] theorem Cpu.setY_y (c : Cpu) (v : Byte) : (c.setY v).y = v := rfl
@[simp] theorem Cpu.setY_s (c : Cpu) (v : Byte) : (c.setY v).s = c.s := rfl
@[simp] theorem Cpu.setY_p (c : Cpu) (v : Byte) : (c.setY v).p = c.p := rfl
@[simp] theorem Cpu.setY_pc (c : Cpu) (v : Byte) : (c.setY v).pc = c.pc := rfl
@[simp] theorem Cpu.setY_irqInhibit (c : Cpu) (v : Byte) : (c.setY v).irqInhibit = c.irqInhibit := rfl
@[simp] theorem Cpu.setY_phase (c : Cpu) (v : Byte) : (c.setY v).phase = c.phase := rfl
@[simp] theorem Cpu.setY_cycle (c : Cpu) (v : Byte) : (c.setY v).cycle = c.cycle := rfl
@[simp] theorem Cpu.setY_opcode (c : Cpu) (v : Byte) : (c.setY v).opcode = c.opcode := rfl
@[simp] theorem Cpu.setY_lo (c : Cpu) (v : Byte) : (c.setY v).lo = c.lo := rfl
@[simp] theorem Cpu.setY_hi (c : Cpu) (v : Byte) : (c.setY v).hi = c.hi := rfl
@[simp] theorem Cpu.setY_ptr (c : Cpu) (v : Byte) : (c.setY v).ptr = c.ptr := rfl
@[simp] theorem Cpu.setY_ea (c : Cpu) (v : Byte) : (c.setY v).ea = c.ea := rfl
@[simp] theorem Cpu.setY_val (c : Cpu) (v : Byte) : (c.setY v).val = c.val := rfl
@[simp] theorem Cpu.setY_offset (c : Cpu) (v : Byte) : (c.setY v).offset = c.offset := rfl
@[simp] theorem Cpu.setY_crossed (c : Cpu) (v : Byte) : (c.setY v).crossed = c.crossed := rfl
@[simp] theorem Cpu.setS_a (c : Cpu) (v : Byte) : (c.setS v).a = c.a := rfl
@[simp] theorem Cpu.setS_x (c : Cpu) (v : Byte) : (c.setS v).x = c.x := rfl
@[simp] theorem Cpu.setS_y (c : Cpu) (v : Byte) : (c.setS v).y = c.y := rfl
@[simp] theorem Cpu.setS_s (c : Cpu) (v : Byte) : (c.setS v).s = v := rfl
@[simp] theorem Cpu.setS_p (c : Cpu) (v : Byte) : (c.setS v).p = c.p := rfl
@[simp] theorem Cpu.setS_pc (c : Cpu) (v : Byte) : (c.setS v).pc = c.pc := rfl
@[simp] theorem Cpu.setS_irqInhibit (c : Cpu) (v : Byte) : (c.setS v).irqInhibit = c.irqInhibit := rfl
@[simp] theorem Cpu.setS_phase (c : Cpu) (v : Byte) : (c.setS v).phase = c.phase := rfl
@[simp] theorem Cpu.setS_cycle (c : Cpu) (v : Byte) : (c.setS v).cycle = c.cycle := rfl
@[simp] theorem Cpu.setS_opcode (c : Cpu) (v : Byte) : (c.setS v).opcode = c.opcode := rfl
@[simp] theorem Cpu.setS_lo (c : Cpu) (v : Byte) : (c.setS v).lo = c.lo := rfl
@[simp] theorem Cpu.setS_hi (c : Cpu) (v : Byte) : (c.setS v).hi = c.hi := rfl
@[simp] theorem Cpu.setS_ptr (c : Cpu) (v : Byte) : (c.setS v).ptr = c.ptr := rfl
@[simp] theorem Cpu.setS_ea (c : Cpu) (v : Byte) : (c.setS v).ea = c.ea := rfl
@[simp] theorem Cpu.setS_val (c : Cpu) (v : Byte) : (c.setS v).val = c.val := rfl
@[simp] theorem Cpu.setS_offset (c : Cpu) (v : Byte) : (c.setS v).offset = c.offset := rfl
@[simp] theorem Cpu.setS_crossed (c : Cpu) (v : Byte) : (c.setS v).crossed = c.crossed := rfl
@[simp] theorem Cpu.setP_a (c : Cpu) (v : Flags) : (c.setP v).a = c.a := rfl
@[simp] theorem Cpu.setP_x (c : Cpu) (v : Flags) : (c.setP v).x = c.x := rfl
@[simp] theorem Cpu.setP_y (c : Cpu) (v : Flags) : (c.setP v).y = c.y := rfl
@[simp] theorem Cpu.setP_s (c : Cpu) (v : Flags) : (c.setP v).s = c.s := rfl
@[simp] theorem Cpu.setP_p (c : Cpu) (v : Flags) : (c.setP v).p = v := rfl
@[simp] theorem Cpu.setP_pc (c : Cpu) (v : Flags) : (c.setP v).pc = c.pc := rfl
@[simp] theorem Cpu.setP_irqInhibit (c : Cpu) (v : Flags) : (c.setP v).irqInhibit = c.irqInhibit := rfl
@[simp] theorem Cpu.setP_phase (c : Cpu) (v : Flags) : (c.setP v).phase = c.phase := rfl
@[simp] theorem Cpu.setP_cycle (c : Cpu) (v : Flags) : (c.setP v).cycle = c.cycle := rfl
@[simp] theorem Cpu.setP_opcode (c : Cpu) (v : Flags) : (c.setP v).opcode = c.opcode := rfl
@[simp] theorem Cpu.setP_lo (c : Cpu) (v : Flags) : (c.setP v).lo = c.lo := rfl
@[simp] theorem Cpu.setP_hi (c : Cpu) (v : Flags) : (c.setP v).hi = c.hi := rfl
@[simp] theorem Cpu.setP_ptr (c : Cpu) (v : Flags) : (c.setP v).ptr = c.ptr := rfl
@[simp] theorem Cpu.setP_ea (c : Cpu) (v : Flags) : (c.setP v).ea = c.ea := rfl
@[simp] theorem Cpu.setP_val (c : Cpu) (v : Flags) : (c.setP v).val = c.val := rfl
@[simp] theorem Cpu.setP_offset (c : Cpu) (v : Flags) : (c.setP v).offset = c.offset := rfl
@[simp] theorem Cpu.setP_crossed (c : Cpu) (v : Flags) : (c.setP v).crossed = c.crossed := rfl
@[simp] theorem Cpu.mapP_a (c : Cpu) (f : Flags → Flags) : (c.mapP f).a = c.a := rfl
@[simp] theorem Cpu.mapP_x (c : Cpu) (f : Flags → Flags) : (c.mapP f).x = c.x := rfl
@[simp] theorem Cpu.mapP_y (c : Cpu) (f : Flags → Flags) : (c.mapP f).y = c.y := rfl
@[simp] theorem Cpu.mapP_s (c : Cpu) (f : Flags → Flags) : (c.mapP f).s = c.s := rfl
@[simp] theorem Cpu.mapP_p (c : Cpu) (f : Flags → Flags) : (c.mapP f).p = f c.p := rfl
@[simp] theorem Cpu.mapP_pc (c : Cpu) (f : Flags → Flags) : (c.mapP f).pc = c.pc := rfl
@[simp] theorem Cpu.mapP_irqInhibit (c : Cpu) (f : Flags → Flags) : (c.mapP f).irqInhibit = c.irqInhibit := rfl
@[simp] theorem Cpu.mapP_phase (c : Cpu) (f : Flags → Flags) : (c.mapP f).phase = c.phase := rfl
@[simp] theorem Cpu.mapP_cycle (c : Cpu) (f : Flags → Flags) : (c.mapP f).cycle = c.cycle := rfl
@[simp] theorem Cpu.mapP_opcode (c : Cpu) (f : Flags → Flags) : (c.mapP f).opcode = c.opcode := rfl
@[simp] theorem Cpu.mapP_lo (c : Cpu) (f : Flags → Flags) : (c.mapP f).lo = c.lo := rfl
@[simp] theorem Cpu.mapP_hi (c : Cpu) (f : Flags → Flags) : (c.mapP f).hi = c.hi := rfl
@[simp] theorem Cpu.mapP_ptr (c : Cpu) (f : Flags → Flags) : (c.mapP f).ptr = c.ptr := rfl
@[simp] theorem Cpu.mapP_ea (c : Cpu) (f : Flags → Flags) : (c.mapP f).ea = c.ea := rfl
@[simp] theorem Cpu.mapP_val (c : Cpu) (f : Flags → Flags) : (c.mapP f).val = c.val := rfl
@[simp] theorem Cpu.mapP_offset (c : Cpu) (f : Flags → Flags) : (c.mapP f).offset = c.offset := rfl
@[simp] theorem Cpu.mapP_crossed (c : Cpu) (f : Flags → Flags) : (c.mapP f).crossed = c.crossed := rfl
@[simp] theorem Cpu.setPc_a (c : Cpu) (v : Word) : (c.setPc v).a = c.a := rfl
@[simp] theorem Cpu.setPc_x (c : Cpu) (v : Word) : (c.setPc v).x = c.x := rfl
@[simp] theorem Cpu.setPc_y (c : Cpu) (v : Word) : (c.setPc v).y = c.y := rfl
@[simp] theorem Cpu.setPc_s (c : Cpu) (v : Word) : (c.setPc v).s = c.s := rfl
@[simp] theorem Cpu.setPc_p (c : Cpu) (v : Word) : (c.setPc v).p = c.p := rfl
@[simp] theorem Cpu.setPc_pc (c : Cpu) (v : Word) : (c.setPc v).pc = v := rfl
@[simp] theorem Cpu.setPc_irqInhibit (c : Cpu) (v : Word) : (c.setPc v).irqInhibit = c.irqInhibit := rfl
@[simp] theorem Cpu.setPc_phase (c : Cpu) (v : Word) : (c.setPc v).phase = c.phase := rfl
@[simp] theorem Cpu.setPc_cycle (c : Cpu) (v : Word) : (c.setPc v).cycle = c.cycle := rfl
@[simp] theorem Cpu.setPc_opcode (c : Cpu) (v : Word) : (c.setPc v).opcode = c.opcode := rfl
@[simp] theorem Cpu.setPc_lo (c : Cpu) (v : Word) : (c.setPc v).lo = c.lo := rfl
@[simp] theorem Cpu.setPc_hi (c : Cpu) (v : Word) : (c.setPc v).hi = c.hi := rfl
@[simp] theorem Cpu.setPc_ptr (c : Cpu) (v : Word) : (c.setPc v).ptr = c.ptr := rfl
@[simp] theorem Cpu.setPc_ea (c : Cpu) (v : Word) : (c.setPc v).ea = c.ea := rfl
@[simp] theorem Cpu.setPc_val (c : Cpu) (v : Word) : (c.setPc v).val = c.val := rfl
@[simp] theorem Cpu.setPc_offset (c : Cpu) (v : Word) : (c.setPc v).offset = c.offset := rfl
@[simp] theorem Cpu.setPc_crossed (c : Cpu) (v : Word) : (c.setPc v).crossed = c.crossed := rfl
@[simp] theorem Cpu.setLo_a (c : Cpu) (v : Byte) : (c.setLo v).a = c.a := rfl
@[simp] theorem Cpu.setLo_x (c : Cpu) (v : Byte) : (c.setLo v).x = c.x := rfl
@[simp] theorem Cpu.setLo_y (c : Cpu) (v : Byte) : (c.setLo v).y = c.y := rfl
@[simp] theorem Cpu.setLo_s (c : Cpu) (v : Byte) : (c.setLo v).s = c.s := rfl
@[simp] theorem Cpu.setLo_p (c : Cpu) (v : Byte) : (c.setLo v).p = c.p := rfl
@[simp] theorem Cpu.setLo_pc (c : Cpu) (v : Byte) : (c.setLo v).pc = c.pc := rfl
@[simp] theorem Cpu.setLo_irqInhibit (c : Cpu) (v : Byte) : (c.setLo v).irqInhibit = c.irqInhibit := rfl
@[simp] theorem Cpu.setLo_phase (c : Cpu) (v : Byte) : (c.setLo v).phase = c.phase := rfl
@[simp] theorem Cpu.setLo_cycle (c : Cpu) (v : Byte) : (c.setLo v).cycle = c.cycle := rfl
@[simp] theorem Cpu.setLo_opcode (c : Cpu) (v : Byte) : (c.setLo v).opcode = c.opcode := rfl
@[simp] theorem Cpu.setLo_lo (c : Cpu) (v : Byte) : (c.setLo v).lo = v := rfl
@[simp] theorem Cpu.setLo_hi (c : Cpu) (v : Byte) : (c.setLo v).hi = c.hi := rfl
@[simp] theorem Cpu.setLo_ptr (c : Cpu) (v : Byte) : (c.setLo v).ptr = c.ptr := rfl
@[simp] theorem Cpu.setLo_ea (c : Cpu) (v : Byte) : (c.setLo v).ea = c.ea := rfl
@[simp] theorem Cpu.setLo_val (c : Cpu) (v : Byte) : (c.setLo v).val = c.val := rfl
@[simp] theorem Cpu.setLo_offset (c : Cpu) (v : Byte) : (c.setLo v).offset = c.offset := rfl
@[simp] theorem Cpu.setLo_crossed (c : Cpu) (v : Byte) : (c.setLo v).crossed = c.crossed := rfl
@[simp] theorem Cpu.setHi_a (c : Cpu) (v : Byte) : (c.setHi v).a = c.a := rfl
@[simp] theorem Cpu.setHi_x (c : Cpu) (v : Byte) : (c.setHi v).x = c.x := rfl
@[simp] theorem Cpu.setHi_y (c : Cpu) (v : Byte) : (c.setHi v).y = c.y := rfl
@[simp] theorem Cpu.setHi_s (c : Cpu) (v : Byte) : (c.setHi v).s = c.s := rfl
@[simp] theorem Cpu.setHi_p (c : Cpu) (v : Byte) : (c.setHi v).p = c.p := rfl
@[simp] theorem Cpu.setHi_pc (c : Cpu) (v : Byte) : (c.setHi v).pc = c.pc := rfl
@[simp] theorem Cpu.setHi_irqInhibit (c : Cpu) (v : Byte) : (c.setHi v).irqInhibit = c.irqInhibit := rfl
@[simp] theorem Cpu.setHi_phase (c : Cpu) (v : Byte) : (c.setHi v).phase = c.phase := rfl
@[simp] theorem Cpu.setHi_cycle (c : Cpu) (v : Byte) : (c.setHi v).cycle = c.cycle := rfl
@[simp] theorem Cpu.setHi_opcode (c : Cpu) (v : Byte) : (c.setHi v).opcode = c.opcode := rfl
@[simp] theorem Cpu.setHi_lo (c : Cpu) (v : Byte) : (c.setHi v).lo = c.lo := rfl
@[simp] theorem Cpu.setHi_hi (c : Cpu) (v : Byte) : (c.setHi v).hi = v := rfl
@[simp] theorem Cpu.setHi_ptr (c : Cpu) (v : Byte) : (c.setHi v).ptr = c.ptr := rfl
@[simp] theorem Cpu.setHi_ea (c : Cpu) (v : Byte) : (c.setHi v).ea = c.ea := rfl
@[simp] theorem Cpu.setHi_val (c : Cpu) (v : Byte) : (c.setHi v).val = c.val := rfl
@[simp] theorem Cpu.setHi_offset (c : Cpu) (v : Byte) : (c.setHi v).offset = c.offset := rfl
@[simp] theorem Cpu.setHi_crossed (c : Cpu) (v : Byte) : (c.setHi v).crossed = c.crossed := rfl
@[simp] theorem Cpu.setPtr_a (c : Cpu) (v : Byte) : (c.setPtr v).a = c.a := rfl
@[simp] theorem Cpu.setPtr_x (c : Cpu) (v : Byte) : (c.setPtr v).x = c.x := rfl
@[simp] theorem Cpu.setPtr_y (c : Cpu) (v : Byte) : (c.setPtr v).y = c.y := rfl
@[simp] theorem Cpu.setPtr_s (c : Cpu) (v : Byte) : (c.setPtr v).s = c.s := rfl
@[simp] theorem Cpu.setPtr_p (c : Cpu) (v : Byte) : (c.setPtr v).p = c.p := rfl
@[simp] theorem Cpu.setPtr_pc (c : Cpu) (v : Byte) : (c.setPtr v).pc = c.pc := rfl
@[simp] theorem Cpu.setPtr_irqInhibit (c : Cpu) (v : Byte) : (c.setPtr v).irqInhibit = c.irqInhibit := rfl
@[simp] theorem Cpu.setPtr_phase (c : Cpu) (v : Byte) : (c.setPtr v).phase = c.phase := rfl
@[simp] theorem Cpu.setPtr_cycle (c : Cpu) (v : Byte) : (c.setPtr v).cycle = c.cycle := rfl
@[simp] theorem Cpu.setPtr_opcode (c : Cpu) (v : Byte) : (c.setPtr v).opcode = c.opcode := rfl
@[simp] theorem Cpu.setPtr_lo (c : Cpu) (v : Byte) : (c.setPtr v).lo = c.lo := rfl
@[simp] theorem Cpu.setPtr_hi (c : Cpu) (v : Byte) : (c.setPtr v).hi = c.hi := rfl
@[simp] theorem Cpu.setPtr_ptr (c : Cpu) (v : Byte) : (c.setPtr v).ptr = v := rfl
@[simp] theorem Cpu.setPtr_ea (c : Cpu) (v : Byte) : (c.setPtr v).ea = c.ea := rfl
@[simp] theorem Cpu.setPtr_val (c : Cpu) (v : Byte) : (c.setPtr v).val = c.val := rfl
@[simp] theorem Cpu.setPtr_offset (c : Cpu) (v : Byte) : (c.setPtr v).offset = c.offset := rfl
@[simp] theorem Cpu.setPtr_crossed (c : Cpu) (v : Byte) : (c.setPtr v).crossed = c.crossed := rfl
@[simp] theorem Cpu.setEa_a (c : Cpu) (v : Word) : (c.setEa v).a = c.a := rfl
@[simp] theorem Cpu.setEa_x (c : Cpu) (v : Word) : (c.setEa v).x = c.x := rfl
@[simp] theorem Cpu.setEa_y (c : Cpu) (v : Word) : (c.setEa v).y = c.y := rfl
@[simp] theorem Cpu.setEa_s (c : Cpu) (v : Word) : (c.setEa v).s = c.s := rfl
@[simp] theorem Cpu.setEa_p (c : Cpu) (v : Word) : (c.setEa v).p = c.p := rfl
@[simp] theorem Cpu.setEa_pc (c : Cpu) (v : Word) : (c.setEa v).pc = c.pc := rfl
@[simp] theorem Cpu.setEa_irqInhibit (c : Cpu) (v : Word) : (c.setEa v).irqInhibit = c.irqInhibit := rfl
@[simp] theorem Cpu.setEa_phase (c : Cpu) (v : Word) : (c.setEa v).phase = c.phase := rfl
@[simp] theorem Cpu.setEa_cycle (c : Cpu) (v : Word) : (c.setEa v).cycle = c.cycle := rfl
@[simp] theorem Cpu.setEa_opcode (c : Cpu) (v : Word) : (c.setEa v).opcode = c.opcode := rfl
@[simp] theorem Cpu.setEa_lo (c : Cpu) (v : Word) : (c.setEa v).lo = c.lo := rfl
@[simp] theorem Cpu.setEa_hi (c : Cpu) (v : Word) : (c.setEa v).hi = c.hi := rfl
@[simp] theorem Cpu.setEa_ptr (c : Cpu) (v : Word) : (c.setEa v).ptr = c.ptr := rfl
@[simp] theorem Cpu.setEa_ea (c : Cpu) (v : Word) : (c.setEa v).ea = v := rfl
@[simp] theorem Cpu.setEa_val (c : Cpu) (v : Word) : (c.setEa v).val = c.val := rfl
@[simp] theorem Cpu.setEa_offset (c : Cpu) (v : Word) : (c.setEa v).offset = c.offset := rfl
@[simp] theorem Cpu.setEa_crossed (c : Cpu) (v : Word) : (c.setEa v).crossed = c.crossed := rfl
@[simp] theorem Cpu.setVal_a (c : Cpu) (v : Byte) : (c.setVal v).a = c.a := rfl
@[simp] theorem Cpu.setVal_x (c : Cpu) (v : Byte) : (c.setVal v).x = c.x := rfl
@[simp] theorem Cpu.setVal_y (c : Cpu) (v : Byte) : (c.setVal v).y = c.y := rfl
@[simp] theorem Cpu.setVal_s (c : Cpu) (v : Byte) : (c.setVal v).s = c.s := rfl
@[simp] theorem Cpu.setVal_p (c : Cpu) (v : Byte) : (c.setVal v).p = c.p := rfl
@[simp] theorem Cpu.setVal_pc (c : Cpu) (v : Byte) : (c.setVal v).pc = c.pc := rfl
@[simp] theorem Cpu.setVal_irqInhibit (c : Cpu) (v : Byte) : (c.setVal v).irqInhibit = c.irqInhibit := rfl
@[simp] theorem Cpu.setVal_phase (c : Cpu) (v : Byte) : (c.setVal v).phase = c.phase := rfl
@[simp] theorem Cpu.setVal_cycle (c : Cpu) (v : Byte) : (c.setVal v).cycle = c.cycle := rfl
@[simp] theorem Cpu.setVal_opcode (c : Cpu) (v : Byte) : (c.setVal v).opcode = c.opcode := rfl
@[simp] theorem Cpu.setVal_lo (c : Cpu) (v : Byte) : (c.setVal v).lo = c.lo := rfl
@[simp] theorem Cpu.setVal_hi (c : Cpu) (v : Byte) : (c.setVal v).hi = c.hi := rfl
@[simp] theorem Cpu.setVal_ptr (c : Cpu) (v : Byte) : (c.setVal v).ptr = c.ptr := rfl
@[simp] theorem Cpu.setVal_ea (c : Cpu) (v : Byte) : (c.setVal v).ea = c.ea := rfl
@[simp] theorem Cpu.setVal_val (c : Cpu) (v : Byte) : (c.setVal v).val = v := rfl
@[simp] theorem Cpu.setVal_offset (c : Cpu) (v : Byte) : (c.setVal v).offset = c.offset := rfl
@[simp] theorem Cpu.setVal_crossed (c : Cpu) (v : Byte) : (c.setVal v).crossed = c.crossed := rfl
@[simp] theorem Cpu.setOffset_a (c : Cpu) (v : Byte) : (c.setOffset v).a = c.a := rfl
@[simp] theorem Cpu.setOffset_x (c : Cpu) (v : Byte) : (c.setOffset v).x = c.x := rfl
@[simp] theorem Cpu.setOffset_y (c : Cpu) (v : Byte) : (c.setOffset v).y = c.y := rfl
@[simp] theorem Cpu.setOffset_s (c : Cpu) (v : Byte) : (c.setOffset v).s = c.s := rfl
@[simp] theorem Cpu.setOffset_p (c : Cpu) (v : Byte) : (c.setOffset v).p = c.p := rfl
@[simp] theorem Cpu.setOffset_pc (c : Cpu) (v : Byte) : (c.setOffset v).pc = c.pc := rfl
@[simp] theorem Cpu.setOffset_irqInhibit (c : Cpu) (v : Byte) : (c.setOffset v).irqInhibit = c.irqInhibit := rfl
@[simp] theorem Cpu.setOffset_phase (c : Cpu) (v : Byte) : (c.setOffset v).phase = c.phase := rfl
@[simp] theorem Cpu.setOffset_cycle (c : Cpu) (v : Byte) : (c.setOffset v).cycle = c.cycle := rfl
@[simp] theorem Cpu.setOffset_opcode (c : Cpu) (v : Byte) : (c.setOffset v).opcode = c.opcode := rfl
@[simp] theorem Cpu.setOffset_lo (c : Cpu) (v : Byte) : (c.setOffset v).lo = c.lo := rfl
@[simp] theorem Cpu.setOffset_hi (c : Cpu) (v : Byte) : (c.setOffset v).hi = c.hi := rfl
@[simp] theorem Cpu.setOffset_ptr (c : Cpu) (v : Byte) : (c.setOffset v).ptr = c.ptr := rfl
@[simp] theorem Cpu.setOffset_ea (c : Cpu) (v : Byte) : (c.setOffset v).ea = c.ea := rfl
@[simp] theorem Cpu.setOffset_val (c : Cpu) (v : Byte) : (c.setOffset v).val = c.val := rfl
@[simp] theorem Cpu.setOffset_offset (c : Cpu) (v : Byte) : (c.setOffset v).offset = v := rfl
@[simp] theorem Cpu.setOffset_crossed (c : Cpu) (v : Byte) : (c.setOffset v).crossed = c.crossed := rfl
@[simp] theorem Cpu.setCrossed_a (c : Cpu) (v : Bool) : (c.setCrossed v).a = c.a := rfl
@[simp] theorem Cpu.setCrossed_x (c : Cpu) (v : Bool) : (c.setCrossed v).x = c.x := rfl
@[simp] theorem Cpu.setCrossed_y (c : Cpu) (v : Bool) : (c.setCrossed v).y = c.y := rfl
@[simp] theorem Cpu.setCrossed_s (c : Cpu) (v : Bool) : (c.setCrossed v).s = c.s := rfl
@[simp] theorem Cpu.setCrossed_p (c : Cpu) (v : Bool) : (c.setCrossed v).p = c.p := rfl
@[simp] theorem Cpu.setCrossed_pc (c : Cpu) (v : Bool) : (c.setCrossed v).pc = c.pc := rfl
@[simp] theorem Cpu.setCrossed_irqInhibit (c : Cpu) (v : Bool) : (c.setCrossed v).irqInhibit = c.irqInhibit := rfl
@[simp] theorem Cpu.setCrossed_phase (c : Cpu) (v : Bool) : (c.setCrossed v).phase = c.phase := rfl
@[simp] theorem Cpu.setCrossed_cycle (c : Cpu) (v : Bool) : (c.setCrossed v).cycle = c.cycle := rfl
@[simp] theorem Cpu.setCrossed_opcode (c : Cpu) (v : Bool) : (c.setCrossed v).opcode = c.opcode := rfl
@[simp] theorem Cpu.setCrossed_lo (c : Cpu) (v : Bool) : (c.setCrossed v).lo = c.lo := rfl
@[simp] theorem Cpu.setCrossed_hi (c : Cpu) (v : Bool) : (c.setCrossed v).hi = c.hi := rfl
@[simp] theorem Cpu.setCrossed_ptr (c : Cpu) (v : Bool) : (c.setCrossed v).ptr = c.ptr := rfl
@[simp] theorem Cpu.setCrossed_ea (c : Cpu) (v : Bool) : (c.setCrossed v).ea = c.ea := rfl
@[simp] theorem Cpu.setCrossed_val (c : Cpu) (v : Bool) : (c.setCrossed v).val = c.val := rfl
@[simp] theorem Cpu.setCrossed_offset (c : Cpu) (v : Bool) : (c.setCrossed v).offset = c.offset := rfl
@[simp] theorem Cpu.setCrossed_crossed (c : Cpu) (v : Bool) : (c.setCrossed v).crossed = v := rfl
@[simp] theorem Cpu.setPhase_a (c : Cpu) (v : Phase) : (c.setPhase v).a = c.a := rfl
@[simp] theorem Cpu.setPhase_x (c : Cpu) (v : Phase) : (c.setPhase v).x = c.x := rfl
@[simp] theorem Cpu.setPhase_y (c : Cpu) (v : Phase) : (c.setPhase v).y = c.y := rfl
@[simp] theorem Cpu.setPhase_s (c : Cpu) (v : Phase) : (c.setPhase v).s = c.s := rfl
@[simp] theorem Cpu.setPhase_p (c : Cpu) (v : Phase) : (c.setPhase v).p = c.p := rfl
@[simp] theorem Cpu.setPhase_pc (c : Cpu) (v : Phase) : (c.setPhase v).pc = c.pc := rfl
@[simp] theorem Cpu.setPhase_irqInhibit (c : Cpu) (v : Phase) : (c.setPhase v).irqInhibit = c.irqInhibit := rfl
@[simp] theorem Cpu.setPhase_phase (c : Cpu) (v : Phase) : (c.setPhase v).phase = v := rfl
@[simp] theorem Cpu.setPhase_cycle (c : Cpu) (v : Phase) : (c.setPhase v).cycle = c.cycle := rfl
@[simp] theorem Cpu.setPhase_opcode (c : Cpu) (v : Phase) : (c.setPhase v).opcode = c.opcode := rfl
@[simp] theorem Cpu.setPhase_lo (c : Cpu) (v : Phase) : (c.setPhase v).lo = c.lo := rfl
@[simp] theorem Cpu.setPhase_hi (c : Cpu) (v : Phase) : (c.setPhase v).hi = c.hi := rfl
@[simp] theorem Cpu.setPhase_ptr (c : Cpu) (v : Phase) : (c.setPhase v).ptr = c.ptr := rfl
@[simp] theorem Cpu.setPhase_ea (c : Cpu) (v : Phase) : (c.setPhase v).ea = c.ea := rfl
@[simp] theorem Cpu.setPhase_val (c : Cpu) (v : Phase) : (c.setPhase v).val = c.val := rfl
@[simp] theorem Cpu.setPhase_offset (c : Cpu) (v : Phase) : (c.setPhase v).offset = c.offset := rfl
@[simp] theorem Cpu.setPhase_crossed (c : Cpu) (v : Phase) : (c.setPhase v).crossed = c.crossed := rfl
@[simp] theorem Cpu.setCycle_a (c : Cpu) (v : Nat) : (c.setCycle v).a = c.a := rfl
@[simp] theorem Cpu.setCycle_x (c : Cpu) (v : Nat) : (c.setCycle v).x = c.x := rfl
@[simp] theorem Cpu.setCycle_y (c : Cpu) (v : Nat) : (c.setCycle v).y = c.y := rfl
@[simp] theorem Cpu.setCycle_s (c : Cpu) (v : Nat) : (c.setCycle v).s = c.s := rfl
@[simp] theorem Cpu.setCycle_p (c : Cpu) (v : Nat) : (c.setCycle v).p = c.p := rfl
@[simp] theorem Cpu.setCycle_pc (c : Cpu) (v : Nat) : (c.setCycle v).pc = c.pc := rfl
@[simp] theorem Cpu.setCycle_irqInhibit (c : Cpu) (v : Nat) : (c.setCycle v).irqInhibit = c.irqInhibit := rfl
@[simp] theorem Cpu.setCycle_phase (c : Cpu) (v : Nat) : (c.setCycle v).phase = c.phase := rfl
@[simp] theorem Cpu.setCycle_cycle (c : Cpu) (v : Nat) : (c.setCycle v).cycle = v := rfl
@[simp] theorem Cpu.setCycle_opcode (c : Cpu) (v : Nat) : (c.setCycle v).opcode = c.opcode := rfl
@[simp] theorem Cpu.setCycle_lo (c : Cpu) (v : Nat) : (c.setCycle v).lo = c.lo := rfl
@[simp] theorem Cpu.setCycle_hi (c : Cpu) (v : Nat) : (c.setCycle v).hi = c.hi := rfl
@[simp] theorem Cpu.setCycle_ptr (c : Cpu) (v : Nat) : (c.setCycle v).ptr = c.ptr := rfl
@[simp] theorem Cpu.setCycle_ea (c : Cpu) (v : Nat) : (c.setCycle v).ea = c.ea := rfl
@[simp] theorem Cpu.setCycle_val (c : Cpu) (v : Nat) : (c.setCycle v).val = c.val := rfl
@[simp] theorem Cpu.setCycle_offset (c : Cpu) (v : Nat) : (c.setCycle v).offset = c.offset := rfl
@[simp] theorem Cpu.setCycle_crossed (c : Cpu) (v : Nat) : (c.setCycle v).crossed = c.crossed := rfl
@[simp] theorem Cpu.setOpcode_a (c : Cpu) (v : Byte) : (c.setOpcode v).a = c.a := rfl
@[simp] theorem Cpu.setOpcode_x (c : Cpu) (v : Byte) : (c.setOpcode v).x = c.x := rfl
@[simp] theorem Cpu.setOpcode_y (c : Cpu) (v : Byte) : (c.setOpcode v).y = c.y := rfl
@[simp] theorem Cpu.setOpcode_s (c : Cpu) (v : Byte) : (c.setOpcode v).s = c.s := rfl
@[simp] theorem Cpu.setOpcode_p (c : Cpu) (v : Byte) : (c.setOpcode v).p = c.p := rfl
@[simp] theorem Cpu.setOpcode_pc (c : Cpu) (v : Byte) : (c.setOpcode v).pc = c.pc := rfl
@[simp] theorem Cpu.setOpcode_irqInhibit (c : Cpu) (v : Byte) : (c.setOpcode v).irqInhibit = c.irqInhibit := rfl
@[simp] theorem Cpu.setOpcode_phase (c : Cpu) (v : Byte) : (c.setOpcode v).phase = c.phase := rfl
@[simp] theorem Cpu.setOpcode_cycle (c : Cpu) (v : Byte) : (c.setOpcode v).cycle = c.cycle := rfl
@[simp] theorem Cpu.setOpcode_opcode (c : Cpu) (v : Byte) : (c.setOpcode v).opcode = v := rfl
@[simp] theorem Cpu.setOpcode_lo (c : Cpu) (v : Byte) : (c.setOpcode v).lo = c.lo := rfl
@[simp] theorem Cpu.setOpcode_hi (c : Cpu) (v : Byte) : (c.setOpcode v).hi = c.hi := rfl
@[simp] theorem Cpu.setOpcode_ptr (c : Cpu) (v : Byte) : (c.setOpcode v).ptr = c.ptr := rfl
@[simp] theorem Cpu.setOpcode_ea (c : Cpu) (v : Byte) : (c.setOpcode v).ea = c.ea := rfl
@[simp] theorem Cpu.setOpcode_val (c : Cpu) (v : Byte) : (c.setOpcode v).val = c.val := rfl
@[simp] theorem Cpu.setOpcode_offset (c : Cpu) (v : Byte) : (c.setOpcode v).offset = c.offset := rfl
@[simp] theorem Cpu.setOpcode_crossed (c : Cpu) (v : Byte) : (c.setOpcode v).crossed = c.crossed := rfl
@[simp] theorem Cpu.setInhibit_a (c : Cpu) (v : Bool) : (c.setInhibit v).a = c.a := rfl
@[simp] theorem Cpu.setInhibit_x (c : Cpu) (v : Bool) : (c.setInhibit v).x = c.x := rfl
@[simp] theorem Cpu.setInhibit_y (c : Cpu) (v : Bool) : (c.setInhibit v).y = c.y := rfl
@[simp] theorem Cpu.setInhibit_s (c : Cpu) (v : Bool) : (c.setInhibit v).s = c.s := rfl
@[simp] theorem Cpu.setInhibit_p (c : Cpu) (v : Bool) : (c.setInhibit v).p = c.p := rfl
@[simp] theorem Cpu.setInhibit_pc (c : Cpu) (v : Bool) : (c.setInhibit v).pc = c.pc := rfl
@[simp] theorem Cpu.setInhibit_irqInhibit (c : Cpu) (v : Bool) : (c.setInhibit v).irqInhibit = v := rfl
@[simp] theorem Cpu.setInhibit_phase (c : Cpu) (v : Bool) : (c.setInhibit v).phase = c.phase := rfl
@[simp] theorem Cpu.setInhibit_cycle (c : Cpu) (v : Bool) : (c.setInhibit v).cycle = c.cycle := rfl
@[simp] theorem Cpu.setInhibit_opcode (c : Cpu) (v : Bool) : (c.setInhibit v).opcode = c.opcode := rfl
@[simp] theorem Cpu.setInhibit_lo (c : Cpu) (v : Bool) : (c.setInhibit v).lo = c.lo := rfl
@[simp] theorem Cpu.setInhibit_hi (c : Cpu) (v : Bool) : (c.setInhibit v).hi = c.hi := rfl
@[simp] theorem Cpu.setInhibit_ptr (c : Cpu) (v : Bool) : (c.setInhibit v).ptr = c.ptr := rfl
@[simp] theorem Cpu.setInhibit_ea (c : Cpu) (v : Bool) : (c.setInhibit v).ea = c.ea := rfl
@[simp] theorem Cpu.setInhibit_val (c : Cpu) (v : Bool) : (c.setInhibit v).val = c.val := rfl
@[simp] theorem Cpu.setInhibit_offset (c : Cpu) (v : Bool) : (c.setInhibit v).offset = c.offset := rfl
@[simp] theorem Cpu.setInhibit_crossed (c : Cpu) (v : Bool) : (c.setInhibit v).crossed = c.crossed := rfl
@[simp] theorem Cpu.nextCycle_a (c : Cpu) : (c.nextCycle).a = c.a := rfl
@[simp] theorem Cpu.nextCycle_x (c : Cpu) : (c.nextCycle).x = c.x := rfl
@[simp] theorem Cpu.nextCycle_y (c : Cpu) : (c.nextCycle).y = c.y := rfl
@[simp] theorem Cpu.nextCycle_s (c : Cpu) : (c.nextCycle).s = c.s := rfl
@[simp] theorem Cpu.nextCycle_p (c : Cpu) : (c.nextCycle).p = c.p := rfl
@[simp] theorem Cpu.nextCycle_pc (c : Cpu) : (c.nextCycle).pc = c.pc := rfl
@[simp] theorem Cpu.nextCycle_irqInhibit (c : Cpu) : (c.nextCycle).irqInhibit = c.irqInhibit := rfl
@[simp] theorem Cpu.nextCycle_phase (c : Cpu) : (c.nextCycle).phase = c.phase := rfl
@[simp] theorem Cpu.nextCycle_cycle (c : Cpu) : (c.nextCycle).cycle = c.cycle + 1 := rfl
@[simp] theorem Cpu.nextCycle_opcode (c : Cpu) : (c.nextCycle).opcode = c.opcode := rfl
@[simp] theorem Cpu.nextCycle_lo (c : Cpu) : (c.nextCycle).lo = c.lo := rfl
@[simp] theorem Cpu.nextCycle_hi (c : Cpu) : (c.nextCycle).hi = c.hi := rfl
@[simp] theorem Cpu.nextCycle_ptr (c : Cpu) : (c.nextCycle).ptr = c.ptr := rfl
@[simp] theorem Cpu.nextCycle_ea (c : Cpu) : (c.nextCycle).ea = c.ea := rfl
@[simp] theorem Cpu.nextCycle_val (c : Cpu) : (c.nextCycle).val = c.val := rfl
@[simp] theorem Cpu.nextCycle_offset (c : Cpu) : (c.nextCycle).offset = c.offset := rfl
@[simp] theorem Cpu.nextCycle_crossed (c : Cpu) : (c.nextCycle).crossed = c.crossed := rfl
@[simp] theorem Cpu.incPc_a (c : Cpu) : (c.incPc).a = c.a := rfl
@[simp] theorem Cpu.incPc_x (c : Cpu) : (c.incPc).x = c.x := rfl
@[simp] theorem Cpu.incPc_y (c : Cpu) : (c.incPc).y = c.y := rfl
@[simp] theorem Cpu.incPc_s (c : Cpu) : (c.incPc).s = c.s := rfl
@[simp] theorem Cpu.incPc_p (c : Cpu) : (c.incPc).p = c.p := rfl
@[simp] theorem Cpu.incPc_pc (c : Cpu) : (c.incPc).pc = c.pc + 1 := rfl
@[simp] theorem Cpu.incPc_irqInhibit (c : Cpu) : (c.incPc).irqInhibit = c.irqInhibit := rfl
@[simp] theorem Cpu.incPc_phase (c : Cpu) : (c.incPc).phase = c.phase := rfl
@[simp] theorem Cpu.incPc_cycle (c : Cpu) : (c.incPc).cycle = c.cycle := rfl
@[simp] theorem Cpu.incPc_opcode (c : Cpu) : (c.incPc).opcode = c.opcode := rfl
@[simp] theorem Cpu.incPc_lo (c : Cpu) : (c.incPc).lo = c.lo := rfl
@[simp] theorem Cpu.incPc_hi (c : Cpu) : (c.incPc).hi = c.hi := rfl
@[simp] theorem Cpu.incPc_ptr (c : Cpu) : (c.incPc).ptr = c.ptr := rfl
@[simp] theorem Cpu.incPc_ea (c : Cpu) : (c.incPc).ea = c.ea := rfl
@[simp] theorem Cpu.incPc_val (c : Cpu) : (c.incPc).val = c.val := rfl
@[simp] theorem Cpu.incPc_offset (c : Cpu) : (c.incPc).offset = c.offset := rfl
@[simp] theorem Cpu.incPc_crossed (c : Cpu) : (c.incPc).crossed = c.crossed := rfl
@[simp] theorem Cpu.decS_a (c : Cpu) : (c.decS).a = c.a := rfl
@[simp] theorem Cpu.decS_x (c : Cpu) : (c.decS).x = c.x := rfl
@[simp] theorem Cpu.decS_y (c : Cpu) : (c.decS).y = c.y := rfl
@[simp] theorem Cpu.decS_s (c : Cpu) : (c.decS).s = c.s - 1 := rfl
@[simp] theorem Cpu.decS_p (c : Cpu) : (c.decS).p = c.p := rfl
@[simp] theorem Cpu.decS_pc (c : Cpu) : (c.decS).pc = c.pc := rfl
@[simp] theorem Cpu.decS_irqInhibit (c : Cpu) : (c.decS).irqInhibit = c.irqInhibit := rfl
@[simp] theorem Cpu.decS_phase (c : Cpu) : (c.decS).phase = c.phase := rfl
@[simp] theorem Cpu.decS_cycle (c : Cpu) : (c.decS).cycle = c.cycle := rfl
@[simp] theorem Cpu.decS_opcode (c : Cpu) : (c.decS).opcode = c.opcode := rfl
@[simp] theorem Cpu.decS_lo (c : Cpu) : (c.decS).lo = c.lo := rfl
@[simp] theorem Cpu.decS_hi (c : Cpu) : (c.decS).hi = c.hi := rfl
@[simp] theorem Cpu.decS_ptr (c : Cpu) : (c.decS).ptr = c.ptr := rfl
@[simp] theorem Cpu.decS_ea (c : Cpu) : (c.decS).ea = c.ea := rfl
@[simp] theorem Cpu.decS_val (c : Cpu) : (c.decS).val = c.val := rfl
@[simp] theorem Cpu.decS_offset (c : Cpu) : (c.decS).offset = c.offset := rfl
@[simp] theorem Cpu.decS_crossed (c : Cpu) : (c.decS).crossed = c.crossed := rfl
@[simp] theorem Cpu.incS_a (c : Cpu) : (c.incS).a = c.a := rfl
@[simp] theorem Cpu.incS_x (c : Cpu) : (c.incS).x = c.x := rfl
@[simp] theorem Cpu.incS_y (c : Cpu) : (c.incS).y = c.y := rfl
@[simp] theorem Cpu.incS_s (c : Cpu) : (c.incS).s = c.s + 1 := rfl
@[simp] theorem Cpu.incS_p (c : Cpu) : (c.incS).p = c.p := rfl
@[simp] theorem Cpu.incS_pc (c : Cpu) : (c.incS).pc = c.pc := rfl
@[simp] theorem Cpu.incS_irqInhibit (c : Cpu) : (c.incS).irqInhibit = c.irqInhibit := rfl
@[simp] theorem Cpu.incS_phase (c : Cpu) : (c.incS).phase = c.phase := rfl
@[simp] theorem Cpu.incS_cycle (c : Cpu) : (c.incS).cycle = c.cycle := rfl
@[simp] theorem Cpu.incS_opcode (c : Cpu) : (c.incS).opcode = c.opcode := rfl
@[simp] theorem Cpu.incS_lo (c : Cpu) : (c.incS).lo = c.lo := rfl
@[simp] theorem Cpu.incS_hi (c : Cpu) : (c.incS).hi = c.hi := rfl
@[simp] theorem Cpu.incS_ptr (c : Cpu) : (c.incS).ptr = c.ptr := rfl
@[simp] theorem Cpu.incS_ea (c : Cpu) : (c.incS).ea = c.ea := rfl
@[simp] theorem Cpu.incS_val (c : Cpu) : (c.incS).val = c.val := rfl
@[simp] theorem Cpu.incS_offset (c : Cpu) : (c.incS).offset = c.offset := rfl
@[simp] theorem Cpu.incS_crossed (c : Cpu) : (c.incS).crossed = c.crossed := rfl
@[simp] theorem Cpu.enter_a (c : Cpu) (ph : Phase) : (c.enter ph).a = c.a := rfl
@[simp] theorem Cpu.enter_x (c : Cpu) (ph : Phase) : (c.enter ph).x = c.x := rfl
@[simp] theorem Cpu.enter_y (c : Cpu) (ph : Phase) : (c.enter ph).y = c.y := rfl
@[simp] theorem Cpu.enter_s (c : Cpu) (ph : Phase) : (c.enter ph).s = c.s := rfl
@[simp] theorem Cpu.enter_p (c : Cpu) (ph : Phase) : (c.enter ph).p = c.p := rfl
@[simp] theorem Cpu.enter_pc (c : Cpu) (ph : Phase) : (c.enter ph).pc = c.pc := rfl
@[simp] theorem Cpu.enter_irqInhibit (c : Cpu) (ph : Phase) : (c.enter ph).irqInhibit = c.irqInhibit := rfl
@[simp] theorem Cpu.enter_phase (c : Cpu) (ph : Phase) : (c.enter ph).phase = ph := rfl
@[simp] theorem Cpu.enter_cycle (c : Cpu) (ph : Phase) : (c.enter ph).cycle = 1 := rfl
@[simp] theorem Cpu.enter_opcode (c : Cpu) (ph : Phase) : (c.enter ph).opcode = c.opcode := rfl
@[simp] theorem Cpu.enter_lo (c : Cpu) (ph : Phase) : (c.enter ph).lo = c.lo := rfl
@[simp] theorem Cpu.enter_hi (c : Cpu) (ph : Phase) : (c.enter ph).hi = c.hi := rfl
@[simp] theorem Cpu.enter_ptr (c : Cpu) (ph : Phase) : (c.enter ph).ptr = c.ptr := rfl
@[simp] theorem Cpu.enter_ea (c : Cpu) (ph : Phase) : (c.enter ph).ea = c.ea := rfl
@[simp] theorem Cpu.enter_val (c : Cpu) (ph : Phase) : (c.enter ph).val = c.val := rfl
@[simp] theorem Cpu.enter_offset (c : Cpu) (ph : Phase) : (c.enter ph).offset = c.offset := rfl
@[simp] theorem Cpu.enter_crossed (c : Cpu) (ph : Phase) : (c.enter ph).crossed = c.crossed := rfl

/-! ## AddressSpace, Video and the NMI line -/

@[simp] theorem AddressSpace.latch_reads (b : AddressSpace) (v : Byte) : (b.latch v).reads = b.reads := rfl
@[simp] theorem AddressSpace.latch_writes (b : AddressSpace) (v : Byte) : (b.latch v).writes = b.writes := rfl
@[simp] theorem AddressSpace.latch_openBus (b : AddressSpace) (v : Byte) : (b.latch v).openBus = v := rfl
@[simp] theorem AddressSpace.latch_draws (b : AddressSpace) (v : Byte) : (b.latch v).draws = b.draws := rfl
@[simp] theorem AddressSpace.latch_fault (b : AddressSpace) (v : Byte) : (b.latch v).fault = b.fault := rfl
@[simp] theorem AddressSpace.raise_reads (b : AddressSpace) (f : Fault) : (b.raise f).reads = b.reads := rfl
@[simp] theorem AddressSpace.raise_writes (b : AddressSpace) (f : Fault) : (b.raise f).writes = b.writes := rfl
@[simp] theorem AddressSpace.raise_openBus (b : AddressSpace) (f : Fault) : (b.raise f).openBus = b.openBus := rfl
@[simp] theorem AddressSpace.raise_draws (b : AddressSpace) (f : Fault) : (b.raise f).draws = b.draws := rfl
@[simp] theorem AddressSpace.raise_fault (b : AddressSpace) (f : Fault) : (b.raise f).fault = some f := rfl
@[simp] theorem AddressSpace.draw_reads (b : AddressSpace) : (b.draw).reads = b.reads := rfl
@[simp] theorem AddressSpace.draw_writes (b : AddressSpace) : (b.draw).writes = b.writes := rfl
@[simp] theorem AddressSpace.draw_openBus (b : AddressSpace) : (b.draw).openBus = b.openBus := rfl
@[simp] theorem AddressSpace.draw_draws (b : AddressSpace) : (b.draw).draws = b.draws + 1 := rfl
@[simp] theorem AddressSpace.draw_fault (b : AddressSpace) : (b.draw).fault = b.fault := rfl
@[simp] theorem Video.mapPpu_ppu (vd : Video) (f : Ppu → Ppu) : (vd.mapPpu f).ppu = f vd.ppu := rfl
@[simp] theorem Video.mapPpu_bus (vd : Video) (f : Ppu → Ppu) : (vd.mapPpu f).bus = vd.bus := rfl
@[simp] theorem Video.mapPpu_nmi (vd : Video) (f : Ppu → Ppu) : (vd.mapPpu f).nmi = vd.nmi := rfl
@[simp] theorem Video.setNmi_ppu (vd : Video) (l : NmiLine) : (vd.setNmi l).ppu = vd.ppu := rfl
@[simp] theorem Video.setNmi_bus (vd : Video) (l : NmiLine) : (vd.setNmi l).bus = vd.bus := rfl
@[simp] theorem Video.setNmi_nmi (vd : Video) (l : NmiLine) : (vd.setNmi l).nmi = l := rfl
@[simp] theorem NmiLine.raise_sources (l : NmiLine) (a : Nat) : (l.raise a).sources = insertSource a l.sources := rfl
@[simp] theorem NmiLine.raise_edgePending (l : NmiLine) (a : Nat) :
    (l.raise a).edgePending = (l.edgePending || !lineLevel l.sources) := rfl
@[simp] theorem NmiLine.release_sources (l : NmiLine) (a : Nat) : (l.release a).sources = removeSource a l.sources := rfl
@[simp] theorem NmiLine.release_edgePending (l : NmiLine) (a : Nat) : (l.release a).edgePending = l.edgePending := rfl

end Sys2Proof.Machine
end

