-- ==== Sys2Proof/Laws/Memory.lean ====
section
/-! SUPPORT. The sparse memories: read after write, and the canonical form is kept (log 4). -/

namespace Sys2Proof.Machine

variable {w : Nat}

theorem Cells.wfFrom_mono {m : Cells w} {a b : Nat} (hab : a ≤ b) (h : Cells.wfFrom b m = true) :
    Cells.wfFrom a m = true := by
  cases m with
  | nil => rfl
  | cons c rest =>
    obtain ⟨j, v⟩ := c
    simp only [Cells.wfFrom, Bool.and_eq_true, decide_eq_true_eq] at h ⊢
    exact ⟨⟨by omega, h.1.2⟩, h.2⟩

/-- A cell below every listed one reads as 0. -/
theorem Cells.get_of_lt {m : Cells w} {lo k : Nat} (h : Cells.wfFrom lo m = true) (hk : k < lo) : m.get k = 0 := by
  cases m with
  | nil => rfl
  | cons c rest =>
    obtain ⟨j, v⟩ := c
    simp only [Cells.wfFrom, Bool.and_eq_true, decide_eq_true_eq] at h
    simp only [Cells.get, if_pos (show k < j by omega)]

theorem Cells.put_wf {m : Cells w} {lo k : Nat} (v : BitVec w) (hk : lo ≤ k) (h : Cells.wfFrom (k + 1) m = true) :
    Cells.wfFrom lo (Cells.put k v m) = true := by
  unfold Cells.put
  split
  · exact Cells.wfFrom_mono (by omega) h
  · simp only [Cells.wfFrom, Bool.and_eq_true, decide_eq_true_eq]
    exact ⟨⟨hk, by assumption⟩, h⟩

theorem Cells.set_wf {m : Cells w} {lo : Nat} (k : Nat) (v : BitVec w) (hk : lo ≤ k)
    (h : Cells.wfFrom lo m = true) : Cells.wfFrom lo (m.set k v) = true := by
  induction m generalizing lo with
  | nil => exact Cells.put_wf v hk rfl
  | cons c rest ih =>
    obtain ⟨j, u⟩ := c
    have h' := h
    simp only [Cells.wfFrom, Bool.and_eq_true, decide_eq_true_eq] at h'
    simp only [Cells.set]
    split
    · refine Cells.put_wf v hk ?_
      simp only [Cells.wfFrom, Bool.and_eq_true, decide_eq_true_eq]
      exact ⟨⟨by omega, h'.1.2⟩, h'.2⟩
    · split
      · exact Cells.put_wf v hk (by simpa [‹j = k›] using h'.2)
      · simp only [Cells.wfFrom, Bool.and_eq_true, decide_eq_true_eq]
        exact ⟨⟨h'.1.1, h'.1.2⟩, ih (by omega) h'.2⟩

/-- Every write keeps the canonical form. -/
theorem Memory.wf_set {m : Cells w} (k : Nat) (v : BitVec w) (h : Memory.wf m = true) : Memory.wf (m.set k v) = true :=
  Cells.set_wf k v (Nat.zero_le k) h

theorem Cells.get_put {m : Cells w} {k : Nat} (v : BitVec w) (j : Nat) (h : Cells.wfFrom (k + 1) m = true) :
    (Cells.put k v m).get j = if j = k then v else m.get j := by
  unfold Cells.put
  split
  · rename_i hv
    split
    · rename_i hj
      rw [hv, Cells.get_of_lt h (by omega)]
    · rfl
  · simp only [Cells.get]
    split
    · rename_i hlt
      rw [if_neg (by omega), Cells.get_of_lt h (by omega)]
    · split
      · rename_i _ he
        rw [if_pos he.symm]
      · rename_i _ he
        rw [if_neg (fun h => he h.symm)]

/-- Read after write, at the written cell and elsewhere. -/
theorem Cells.get_set {m : Cells w} {lo : Nat} (k : Nat) (v : BitVec w) (j : Nat) (h : Cells.wfFrom lo m = true) :
    (m.set k v).get j = if j = k then v else m.get j := by
  induction m generalizing lo with
  | nil => exact Cells.get_put v j rfl
  | cons c rest ih =>
    obtain ⟨i, u⟩ := c
    have h' := h
    simp only [Cells.wfFrom, Bool.and_eq_true, decide_eq_true_eq] at h'
    simp only [Cells.set]
    split
    · refine Cells.get_put v j ?_
      simp only [Cells.wfFrom, Bool.and_eq_true, decide_eq_true_eq]
      exact ⟨⟨by omega, h'.1.2⟩, h'.2⟩
    · split
      · rename_i _ he
        subst he
        rw [Cells.get_put v j h'.2]
        split
        · rfl
        · simp only [Cells.get]
          split
          · rw [Cells.get_of_lt h'.2 (by omega)]
          · rw [if_neg (by omega)]
      · simp only [Cells.get, ih h'.2]
        split
        · rw [if_neg (by omega)]
        · split
          · rw [if_neg (by omega)]
          · rfl

theorem Cells.get_set_self {m : Cells w} (k : Nat) (v : BitVec w) (h : Memory.wf m = true) : (m.set k v).get k = v := by
  rw [Cells.get_set k v k h, if_pos rfl]

theorem Cells.get_set_ne {m : Cells w} {k j : Nat} (v : BitVec w) (h : Memory.wf m = true) (hj : j ≠ k) :
    (m.set k v).get j = m.get j := by
  rw [Cells.get_set k v j h, if_neg hj]

end Sys2Proof.Machine
end

