-- ==== Sys2Proof/Laws/Bus.lean ====
section
/-! SUPPORT. Port resolution and the accesses of one AddressSpace: what an access can change, and why a port that fits
its device never faults (R205, R210, R211). -/

namespace Sys2Proof.Machine

/-! ## Resolution -/

theorem portAt_mem {ports : List Port} {addr : Nat} {p : Port} (h : portAt ports addr = some p) :
    p ∈ ports ∧ p.contains addr = true := by
  induction ports generalizing p with
  | nil => simp [portAt] at h
  | cons q qs ih =>
    simp only [portAt] at h
    split at h
    · split at h
      · cases h
        exact ⟨List.mem_cons_self, by assumption⟩
      · cases h
    · rename_i r hr
      split at h
      · rename_i hq
        cases h
        exact ⟨List.mem_cons_self, by simp only [Bool.and_eq_true] at hq; exact hq.1⟩
      · cases h
        exact ⟨List.mem_cons_of_mem _ (ih hr).1, (ih hr).2⟩

/-- What a hit says: the device is in the list, it is valid, and the offset is one of its own. -/
theorem resolve_hit {ports : List Port} {devs : List Device} {addr id off : Nat} {d : Device}
    (h : resolve ports devs addr = .hit id d off) : devs[id]? = some d ∧ d.valid = true ∧ off < d.size := by
  unfold resolve at h
  split at h
  · cases h
  · split at h
    · cases h
    · rename_i p _ e he
      split at h
      · split at h
        · cases h
          exact ⟨he, by assumption, by assumption⟩
        · cases h
      · cases h

/-- A port that fits its device hands it no offset past its size (R205). -/
theorem resolve_ne_pastDevice {ports : List Port} {devs : List Device} (h : portsFit devs ports = true) (addr : Nat) :
    resolve ports devs addr ≠ .pastDevice := by
  unfold resolve
  split
  · simp
  · rename_i p hp
    split
    · simp
    · rename_i d hd
      split
      · split
        · simp
        · rename_i hlt
          have hm := portAt_mem hp
          have hf := List.all_eq_true.mp h p hm.1
          simp only [hd, decide_eq_true_eq] at hf
          simp only [Port.contains, Bool.and_eq_true, decide_eq_true_eq] at hm
          omega
      · simp

theorem portsFit_set {devs : List Device} {ports : List Port} {id : Nat} {d e : Device} (hd : devs[id]? = some d)
    (he : e.size = d.size) : portsFit (devs.set id e) ports = portsFit devs ports := by
  have hlt : id < devs.length := (List.getElem?_eq_some_iff.mp hd).1
  unfold portsFit
  congr 1
  funext p
  by_cases hp : id = p.device
  · subst hp
    simp [List.getElem?_set_self hlt, hd, he]
  · rw [List.getElem?_set_ne hp]

/-! ## Stores into devices -/

@[simp] theorem Device.store_size (d : Device) (o : Nat) (v : Byte) : (d.store o v).size = d.size := rfl
@[simp] theorem Device.store_kind (d : Device) (o : Nat) (v : Byte) : (d.store o v).kind = d.kind := rfl
@[simp] theorem Device.store_valid (d : Device) (o : Nat) (v : Byte) : (d.store o v).valid = d.valid := rfl
@[simp] theorem Device.store_mirror (d : Device) (o : Nat) (v : Byte) : (d.store o v).mirror = d.mirror := rfl
@[simp] theorem Device.store_pokeable (d : Device) (o : Nat) (v : Byte) : (d.store o v).pokeable = d.pokeable := rfl
@[simp] theorem Device.store_index (d : Device) (o k : Nat) (v : Byte) : (d.store o v).index k = d.index k := rfl

/-- A memory write to a resolved target: it leaves the devices, or stores one byte into a RAM device of the list. -/
theorem storeTarget_cases (ports : List Port) (devs : List Device) (addr : Nat) (v : Byte) :
    (storeTarget devs v (resolve ports devs addr) = devs ∧ (resolve ports devs addr).ramCell = none) ∨
    ∃ id d off, resolve ports devs addr = .hit id d off ∧ d.kind = .ram ∧ devs[id]? = some d ∧
      storeTarget devs v (resolve ports devs addr) = devs.set id (d.store off v) := by
  cases h : resolve ports devs addr with
  | absent => exact .inl ⟨rfl, rfl⟩
  | pastDevice => exact .inl ⟨rfl, rfl⟩
  | hit id d off =>
    cases hk : d.kind with
    | ram => exact .inr ⟨id, d, off, rfl, hk, (resolve_hit h).1, by simp [storeTarget, hk]⟩
    | _ => exact .inl ⟨by simp [storeTarget, hk], by simp [Target.ramCell, hk]⟩

theorem portsFit_storeTarget (ports ports' : List Port) (devs : List Device) (addr : Nat) (v : Byte) :
    portsFit (storeTarget devs v (resolve ports devs addr)) ports' = portsFit devs ports' := by
  rcases storeTarget_cases ports devs addr v with ⟨h, -⟩ | ⟨id, d, off, -, -, hd, h⟩
  · rw [h]
  · rw [h, portsFit_set hd (Device.store_size d off v)]

/-- Every device's memory is canonical. -/
def devicesWf (devs : List Device) : Bool := devs.all fun d => Memory.wf d.cells

theorem devicesWf_get {devs : List Device} {id : Nat} {d : Device} (h : devicesWf devs = true)
    (hd : devs[id]? = some d) : Memory.wf d.cells = true :=
  List.all_eq_true.mp h d (List.mem_of_getElem? hd)

theorem devicesWf_set {devs : List Device} {e : Device} (id : Nat) (h : devicesWf devs = true)
    (he : Memory.wf e.cells = true) : devicesWf (devs.set id e) = true := by
  refine List.all_eq_true.mpr fun d hd => ?_
  rcases List.mem_or_eq_of_mem_set hd with hm | rfl
  · exact List.all_eq_true.mp h d hm
  · exact he

theorem devicesWf_storeTarget {devs : List Device} (ports : List Port) (addr : Nat) (v : Byte)
    (h : devicesWf devs = true) : devicesWf (storeTarget devs v (resolve ports devs addr)) = true := by
  rcases storeTarget_cases ports devs addr v with ⟨hs, -⟩ | ⟨id, d, off, -, -, hd, hs⟩
  · rw [hs]; exact h
  · rw [hs]
    exact devicesWf_set id h (Memory.wf_set _ _ (devicesWf_get h hd))

/-- The byte of cell `idx` of device `dev` of a device list. -/
def cellOf (devs : List Device) (dev idx : Nat) : Byte :=
  match devs[dev]? with
  | some d => d.cells.get idx
  | none => 0

theorem State.cell_eq (s : State) (dev idx : Nat) : s.cell dev idx = cellOf s.devices dev idx := rfl

/-- A memory write changes the one cell its target is, to the byte written. -/
theorem cellOf_storeTarget {devs : List Device} (ports : List Port) (addr : Nat) (v : Byte) (dev idx : Nat)
    (h : devicesWf devs = true) :
    cellOf (storeTarget devs v (resolve ports devs addr)) dev idx =
      if (resolve ports devs addr).ramCell = some (dev, idx) then v else cellOf devs dev idx := by
  rcases storeTarget_cases ports devs addr v with ⟨hs, hn⟩ | ⟨id, d, off, hr, hk, hd, hs⟩
  · rw [hs, hn]
    simp
  · have hlt : id < devs.length := (List.getElem?_eq_some_iff.mp hd).1
    rw [hs, hr]
    simp only [Target.ramCell, hk, Option.some.injEq, Prod.mk.injEq]
    unfold cellOf
    by_cases hid : id = dev
    · subst hid
      rw [List.getElem?_set_self hlt, hd]
      simp only [Device.store, true_and]
      rw [Cells.get_set _ _ _ (devicesWf_get h hd)]
      by_cases hi : idx = d.index off
      · rw [if_pos hi, if_pos hi.symm]
      · rw [if_neg hi, if_neg fun e => hi e.symm]
    · rw [List.getElem?_set_ne hid, if_neg fun e => hid e.1]

/-! ## What an access does to an AddressSpace -/

/-- The wiring of a space is kept, and an access of ports that fit raises no Fault. -/
structure BusKept (devs : List Device) (b b' : AddressSpace) : Prop where
  reads : b'.reads = b.reads
  writes : b'.writes = b.writes
  fault : portsFit devs b.reads = true → portsFit devs b.writes = true → b.fault = none → b'.fault = none

theorem BusKept.refl (devs : List Device) (b : AddressSpace) : BusKept devs b b := ⟨rfl, rfl, fun _ _ h => h⟩

theorem BusKept.trans {devs : List Device} {a b c : AddressSpace} (h : BusKept devs a b) (k : BusKept devs b c) :
    BusKept devs a c where
  reads := k.reads.trans h.reads
  writes := k.writes.trans h.writes
  fault hr hw hf := k.fault (h.reads ▸ hr) (h.writes ▸ hw) (h.fault hr hw hf)

theorem AddressSpace.read_kept (sp : Space) (devs : List Device) (b : AddressSpace) (addr : Nat) :
    BusKept devs b (b.read sp devs addr).2 := by
  unfold AddressSpace.read
  cases h : resolve b.reads devs addr with
  | absent => exact BusKept.refl _ _
  | pastDevice => exact ⟨rfl, rfl, fun hr _ _ => absurd h (resolve_ne_pastDevice hr addr)⟩
  | hit id d off =>
    unfold AddressSpace.readTarget
    dsimp only
    split <;> exact ⟨rfl, rfl, fun _ _ h => h⟩

theorem AddressSpace.writeLatch_kept (devs : List Device) (b : AddressSpace) (v : Byte) (addr : Nat) :
    BusKept devs b (b.writeLatch v (resolve b.writes devs addr)) := by
  cases h : resolve b.writes devs addr with
  | absent => exact ⟨rfl, rfl, fun _ _ h => h⟩
  | pastDevice => exact ⟨rfl, rfl, fun _ hw _ => absurd h (resolve_ne_pastDevice hw addr)⟩
  | hit id d off => exact ⟨rfl, rfl, fun _ _ h => h⟩

/-! ## PPU bus accesses -/

@[simp] theorem ppuRead_ppu (devs : List Device) (vd : Video) (a : Nat) : (ppuRead devs vd a).2.ppu = vd.ppu := rfl
@[simp] theorem ppuRead_nmi (devs : List Device) (vd : Video) (a : Nat) : (ppuRead devs vd a).2.nmi = vd.nmi := rfl

theorem ppuRead_kept (devs : List Device) (vd : Video) (a : Nat) : BusKept devs vd.bus (ppuRead devs vd a).2.bus :=
  AddressSpace.read_kept .ppu devs vd.bus (ppuAddr a)

@[simp] theorem ppuWrite_ppu (devs : List Device) (vd : Video) (a : Nat) (v : Byte) :
    (ppuWrite devs vd a v).2.ppu = vd.ppu := rfl
@[simp] theorem ppuWrite_nmi (devs : List Device) (vd : Video) (a : Nat) (v : Byte) :
    (ppuWrite devs vd a v).2.nmi = vd.nmi := rfl

theorem ppuWrite_kept (devs : List Device) (vd : Video) (a : Nat) (v : Byte) :
    BusKept devs vd.bus (ppuWrite devs vd a v).2.bus :=
  AddressSpace.writeLatch_kept devs vd.bus v (ppuAddr a)

end Sys2Proof.Machine
end

