-- ==== Sys2Proof/Laws/Registers.lean ====
section
/-! SUPPORT. What PPU register accesses can change: the PPU space's wiring is kept, its ports that fit
raise no Fault, the framebuffer stays canonical, the counters stay in range and the NMI line follows `nmi_out`. -/

namespace Sys2Proof.Machine

/-! ## Lines -/

theorem mem_insertSource (a k : Nat) (l : List Nat) : k ∈ insertSource a l ↔ k = a ∨ k ∈ l := by
  induction l with
  | nil => simp [insertSource]
  | cons j js ih =>
    simp only [insertSource]
    split
    · simp
    · split
      · simp_all
      · simp only [List.mem_cons, ih]
        tauto

@[simp] theorem insertSource_nil (a : Nat) : insertSource a [] = [a] := rfl

@[simp] theorem removeSource_self (a : Nat) : removeSource a [a] = [] := by simp [removeSource]

/-! ## A video transformation that keeps what it must -/

/-- The bus is kept, the framebuffer stays canonical, the counters stay in range, the line follows its output. -/
structure VideoKept (devs : List Device) (vd vd' : Video) : Prop where
  bus : BusKept devs vd.bus vd'.bus
  canonical : Memory.wf vd.ppu.framebuffer = true → Memory.wf vd'.ppu.framebuffer = true
  range : vd.ppu.wf = true → vd'.ppu.wf = true
  line : vd.nmiWf = true → vd'.nmiWf = true

theorem VideoKept.refl (devs : List Device) (vd : Video) : VideoKept devs vd vd :=
  ⟨BusKept.refl _ _, id, id, id⟩

theorem VideoKept.trans {devs : List Device} {a b c : Video} (h : VideoKept devs a b) (k : VideoKept devs b c) :
    VideoKept devs a c :=
  ⟨h.bus.trans k.bus, k.canonical ∘ h.canonical, k.range ∘ h.range, k.line ∘ h.line⟩

/-- A change of the PPU alone that keeps `nmi_out` and the counters. -/
theorem videoKept_mapPpu {devs : List Device} {vd : Video} {f : Ppu → Ppu}
    (hc : Memory.wf vd.ppu.framebuffer = true → Memory.wf (f vd.ppu).framebuffer = true)
    (hr : vd.ppu.wf = true → (f vd.ppu).wf = true) (hn : (f vd.ppu).nmiOut = vd.ppu.nmiOut) :
    VideoKept devs vd (vd.mapPpu f) :=
  ⟨BusKept.refl _ _, hc, hr, fun h => by simpa [Video.nmiWf, hn] using h⟩

/-- A change of PPU fields that no range speaks of. -/
theorem videoKept_of_same {devs : List Device} {vd : Video} {f : Ppu → Ppu}
    (hf : (f vd.ppu).framebuffer = vd.ppu.framebuffer) (hw : (f vd.ppu).wf = vd.ppu.wf)
    (hn : (f vd.ppu).nmiOut = vd.ppu.nmiOut) : VideoKept devs vd (vd.mapPpu f) :=
  videoKept_mapPpu (fun h => by rw [hf]; exact h) (fun h => by rw [hw]; exact h) hn

/-- A PPU bus read followed by a change of the PPU. -/
theorem videoKept_read {devs : List Device} {vd : Video} (a : Nat) {f : Byte → Ppu → Ppu}
    (hf : ∀ b, (f b vd.ppu).framebuffer = vd.ppu.framebuffer) (hw : ∀ b, (f b vd.ppu).wf = vd.ppu.wf)
    (hn : ∀ b, (f b vd.ppu).nmiOut = vd.ppu.nmiOut) :
    VideoKept devs vd ((ppuRead devs vd a).2.mapPpu (f (ppuRead devs vd a).1)) where
  bus := ppuRead_kept devs vd a
  canonical h := by simpa [hf] using h
  range h := by simpa [hw] using h
  line h := by
    simp only [Video.nmiWf, Video.mapPpu_nmi, Video.mapPpu_ppu, ppuRead_nmi, ppuRead_ppu, hn]
    exact h

/-! ## The NMI output -/

@[simp] theorem updateNmi_bus (vd : Video) : (updateNmi vd).bus = vd.bus := by
  unfold updateNmi
  split
  · rfl
  · split <;> rfl

/-- After `update_nmi()` the output is its target and nothing else of the PPU has changed (R1260). -/
theorem updateNmi_ppu (vd : Video) : (updateNmi vd).ppu = { vd.ppu with nmiOut := vd.ppu.nmiTarget } := by
  unfold updateNmi
  split
  · rename_i h
    simp only [Bool.and_eq_true] at h
    simp [h.1]
  · split
    · rename_i h
      simp only [Bool.and_eq_true, Bool.not_eq_true'] at h
      simp [h.1]
    · rename_i h1 h2
      cases ht : vd.ppu.nmiTarget <;> cases ho : vd.ppu.nmiOut <;> simp_all
      all_goals
        rw [← ho]

theorem updateNmi_line {vd : Video} (h : vd.nmiWf = true) : (updateNmi vd).nmiWf = true := by
  simp only [Video.nmiWf, decide_eq_true_eq] at h ⊢
  unfold updateNmi
  split
  · rename_i hc
    simp only [Bool.and_eq_true, Bool.not_eq_true'] at hc
    simp [h, hc.2]
  · split
    · rename_i hc
      simp only [Bool.and_eq_true] at hc
      simp [h, hc.2]
    · exact h

/-- The edge latch is set exactly when the output rises (R1011, R1260). -/
theorem updateNmi_edge {vd : Video} (h : vd.nmiWf = true) :
    (updateNmi vd).nmi.edgePending = (vd.nmi.edgePending || (vd.ppu.nmiTarget && !vd.ppu.nmiOut)) := by
  simp only [Video.nmiWf, decide_eq_true_eq] at h
  unfold updateNmi
  split
  · rename_i hc
    have hc' := hc
    simp only [Bool.and_eq_true, Bool.not_eq_true'] at hc'
    simp [h, hc'.1, hc'.2, lineLevel]
  · rename_i hc
    split
    · simp_all
    · simp_all

theorem updateNmi_kept (devs : List Device) (vd : Video) : VideoKept devs vd (updateNmi vd) where
  bus := by rw [updateNmi_bus]; exact BusKept.refl _ _
  canonical h := by rw [updateNmi_ppu]; exact h
  range h := by rw [updateNmi_ppu]; exact h
  line := updateNmi_line

/-! ## Register accesses -/

theorem incrementV_eq (p : Ppu) : p.incrementV = { p with v := p.incrementV.v } := rfl

theorem ppuRegisterRead_kept (r : Nat) (devs : List Device) (vd : Video) :
    VideoKept devs vd (ppuRegisterRead r devs vd).2 := by
  have raw : VideoKept devs vd (readRegisterRaw r devs vd).2 := by
    unfold readRegisterRaw
    split
    · exact VideoKept.trans (b := vd.mapPpu Ppu.readStatusEffect) (videoKept_of_same rfl rfl rfl)
        (updateNmi_kept devs _)
    · exact VideoKept.refl _ _
    · show VideoKept devs vd (readData devs vd).2
      unfold readData
      split
      · exact videoKept_read (vd := vd) vd.ppu.dataAddr (f := fun b p => ({ p with readBuffer := b } : Ppu).incrementV)
          (fun _ => rfl) (fun _ => rfl) (fun _ => rfl)
      · exact videoKept_read (vd := vd) (vd.ppu.dataAddr - 0x1000)
          (f := fun b p => ({ p with readBuffer := b } : Ppu).incrementV) (fun _ => rfl) (fun _ => rfl) (fun _ => rfl)
    · exact VideoKept.refl _ _
  exact raw.trans (videoKept_of_same (f := fun p => { p with ioLatch := (readRegisterRaw r devs vd).1 }) rfl rfl rfl)

theorem ppuRegisterWrite_kept (r : Nat) (v : Byte) (devs : List Device) (vd : Video) :
    VideoKept devs vd (ppuRegisterWrite r v devs vd).2 := by
  have raw : VideoKept devs vd (writeRegisterRaw r v devs vd).2 := by
    unfold writeRegisterRaw
    split
    · exact VideoKept.trans (b := vd.mapPpu (·.writeCtrl v)) (videoKept_of_same rfl rfl rfl) (updateNmi_kept devs _)
    · refine videoKept_of_same (f := (·.writeMask v)) ?_ ?_ ?_ <;> · unfold Ppu.writeMask; split <;> rfl
    · exact videoKept_of_same (f := fun p => { p with oamAddr := v }) rfl rfl rfl
    · exact videoKept_of_same (f := (·.writeOamData v)) rfl rfl rfl
    · refine videoKept_of_same (f := (·.writeScroll v)) ?_ ?_ ?_ <;> · unfold Ppu.writeScroll; split <;> rfl
    · refine videoKept_of_same (f := (·.writeAddr v)) ?_ ?_ ?_ <;> · unfold Ppu.writeAddr; split <;> rfl
    · show VideoKept devs vd (writeData v devs vd).2
      unfold writeData
      split
      · exact ⟨ppuWrite_kept devs vd _ v, id, id, id⟩
      · exact videoKept_of_same (f := fun p => (p.setPalette p.dataAddr v).incrementV) rfl rfl rfl
    · exact VideoKept.refl _ _
  exact raw.trans (videoKept_of_same (f := fun p => { p with ioLatch := v }) rfl rfl rfl)

/-- The devices after a register write: only a PPUDATA write below the palette stores, at the cell PPUDATA addresses
(R1217). -/
theorem ppuRegisterWrite_devices (r : Nat) (v : Byte) (devs : List Device) (vd : Video) :
    (ppuRegisterWrite r v devs vd).1 =
      if r = 7 ∧ vd.ppu.dataAddr < 0x3F00 then
        storeTarget devs v (resolve vd.bus.writes devs (ppuAddr vd.ppu.dataAddr))
      else devs := by
  show (writeRegisterRaw r v devs vd).1 = _
  unfold writeRegisterRaw
  split <;> try simp
  · unfold writeData
    split <;> simp_all [ppuWrite]
  · rename_i h
    intro h7
    exact absurd h7 h

end Sys2Proof.Machine
end

