-- ==== Sys2Proof/Laws/Engine.lean ====
section
/-! SUPPORT. What a PPU dot can change (R1300): it keeps the PPU space's wiring, raises no Fault through ports that fit,
and keeps the framebuffer's form, the counters' ranges and the NMI line. -/

namespace Sys2Proof.Machine

/-! ## Dots -/

theorem tileFetch_kept (phase : Nat) (devs : List Device) (vd : Video) : VideoKept devs vd (tileFetch phase devs vd) := by
  unfold tileFetch
  split
  · exact videoKept_read (vd := vd) (ntAddr vd.ppu.v) (f := fun b p => { p with ntByte := b })
      (fun _ => rfl) (fun _ => rfl) (fun _ => rfl)
  · exact videoKept_read (vd := vd) (atAddr vd.ppu.v)
      (f := fun b p => { p with atBits := (b >>> atShift p.v).setWidth 2 }) (fun _ => rfl) (fun _ => rfl) (fun _ => rfl)
  · exact videoKept_read (vd := vd) vd.ppu.bgPatternAddr (f := fun b p => { p with ptLo := b })
      (fun _ => rfl) (fun _ => rfl) (fun _ => rfl)
  · exact videoKept_read (vd := vd) (vd.ppu.bgPatternAddr + 8) (f := fun b p => { p with ptHi := b })
      (fun _ => rfl) (fun _ => rfl) (fun _ => rfl)
  · exact VideoKept.refl _ _

theorem fetchUnused_kept (devs : List Device) (vd : Video) : VideoKept devs vd (fetchUnused devs vd) :=
  videoKept_read (vd := vd) (ntAddr vd.ppu.v) (f := fun _ p => p) (fun _ => rfl) (fun _ => rfl) (fun _ => rfl)

theorem bgFetch_kept (d : Nat) (devs : List Device) (vd : Video) : VideoKept devs vd (bgFetch d devs vd) := by
  unfold bgFetch
  split
  · exact tileFetch_kept _ devs vd
  · split
    · exact fetchUnused_kept devs vd
    · exact VideoKept.refl _ _

theorem spriteFetch_kept (l i o : Nat) (devs : List Device) (vd : Video) :
    VideoKept devs vd (spriteFetch l i o devs vd) := by
  unfold spriteFetch
  split
  · exact fetchUnused_kept devs vd
  · exact fetchUnused_kept devs vd
  · exact videoKept_read (vd := vd) _ (f := fun b p => { p with sprFetchLo := b })
      (fun _ => rfl) (fun _ => rfl) (fun _ => rfl)
  · exact videoKept_read (vd := vd) _ (f := fun b p => p.setUnit i
        { lo := p.unitPattern i p.sprFetchLo, hi := p.unitPattern i b, attr := p.oam2Byte (4 * i + 2),
          x := p.oam2Byte (4 * i + 3) }) (fun _ => rfl) (fun _ => rfl) (fun _ => rfl)
  · exact VideoKept.refl _ _

/-- `q` is `p` but for what sprite evaluation owns: `oam2`, its cursor, the overflow flag and the latches of dot 257. -/
def EvalFrame (p q : Ppu) : Prop :=
  q = { p with
    oam2 := q.oam2
    spr0Next := q.spr0Next
    sprOverflow := q.sprOverflow
    evalN := q.evalN
    evalM := q.evalM
    evalFound := q.evalFound
    evalPhase := q.evalPhase
    sprCountLine := q.sprCountLine
    spr0Line := q.spr0Line }

theorem EvalFrame.trans {p q r : Ppu} (h : EvalFrame p q) (k : EvalFrame q r) : EvalFrame p r := by
  unfold EvalFrame at *
  rw [k, h]

theorem nextEntry_frame (p : Ppu) : EvalFrame p p.nextEntry := by
  unfold Ppu.nextEntry
  split
  · rfl
  · split <;> rfl

theorem evalStep_frame (l : Nat) (p : Ppu) : EvalFrame p (p.evalStep l) := by
  unfold Ppu.evalStep
  split
  · unfold Ppu.evalScan
    dsimp only
    split
    · rfl
    · exact EvalFrame.trans (q := p.setOam2 (4 * p.evalFound) (p.oamByte (4 * p.evalN))) rfl (nextEntry_frame _)
  · rename_i k _
    unfold Ppu.evalCopy
    dsimp only
    split
    · rfl
    · exact EvalFrame.trans (q := { p.setOam2 (4 * p.evalFound + k) (p.oamByte (4 * p.evalN + k)) with
        evalFound := p.evalFound + 1 }) rfl (nextEntry_frame _)
  · unfold Ppu.evalOverflow
    split <;> rfl
  · rfl

/-- Sprite evaluation changes only what it owns (R1420, R1421, R1423). -/
theorem spriteEval_frame (l d : Nat) (p : Ppu) : EvalFrame p (p.spriteEval l d) := by
  unfold Ppu.spriteEval
  split
  · split
    · rfl
    · split
      · rfl
      · split
        · exact evalStep_frame l p
        · split <;> rfl
  · split <;> rfl

/-- The cursor's ranges, as a proposition. -/
theorem evalWf_iff (p : Ppu) : p.evalWf = true ↔ p.evalN ≤ 64 ∧ p.evalM ≤ 3 ∧ p.evalFound ≤ 8 ∧
    (p.evalPhase = .scan → p.evalN ≤ 63 ∧ p.evalFound ≤ 7) ∧
    (∀ k, p.evalPhase = .copy k → p.evalN ≤ 63 ∧ p.evalFound ≤ 7 ∧ 1 ≤ k ∧ k ≤ 3) ∧
    (p.evalPhase = .overflow → p.evalN ≤ 63) := by
  unfold Ppu.evalWf
  cases p.evalPhase <;> simp [and_assoc]

/-- The cursor after `next_entry()`. -/
theorem nextEntry_range {p : Ppu} (hn : p.evalN ≤ 63) (hm : p.evalM ≤ 3) (hf : p.evalFound ≤ 8) :
    p.nextEntry.evalWf = true ∧ p.nextEntry.sprCountLine = p.sprCountLine := by
  unfold Ppu.nextEntry
  split
  · exact ⟨(evalWf_iff _).mpr ⟨by simp; omega, hm, hf, by simp, by simp, by simp⟩, rfl⟩
  · rename_i h
    simp only [beq_iff_eq] at h
    split
    · exact ⟨(evalWf_iff _).mpr ⟨by simp; omega, by simp, hf, by simp, by simp, by simp; omega⟩, rfl⟩
    · rename_i h8
      simp only [beq_iff_eq] at h8
      exact ⟨(evalWf_iff _).mpr ⟨by simp; omega, hm, hf, by simp; omega, by simp, by simp⟩, rfl⟩

theorem evalStep_range (l : Nat) {p : Ppu} (h : p.evalWf = true) :
    (p.evalStep l).evalWf = true ∧ (p.evalStep l).sprCountLine = p.sprCountLine := by
  obtain ⟨hn, hm, hf, hscan, hcopy, hover⟩ := (evalWf_iff p).mp h
  unfold Ppu.evalStep
  split
  · rename_i he
    have hs := hscan he
    unfold Ppu.evalScan
    dsimp only
    split
    · exact ⟨(evalWf_iff _).mpr ⟨hn, hm, hf, by simp, fun k hk => by cases hk; exact ⟨hs.1, hs.2, by omega, by omega⟩,
        by simp⟩, rfl⟩
    · exact nextEntry_range (p := p.setOam2 (4 * p.evalFound) (p.oamByte (4 * p.evalN))) hs.1 hm hf
  · rename_i k he
    have hc := hcopy k he
    unfold Ppu.evalCopy
    dsimp only
    split
    · exact ⟨(evalWf_iff _).mpr ⟨hn, hm, hf, by simp,
        fun j hj => by cases hj; exact ⟨hc.1, hc.2.1, by omega, by omega⟩, by simp⟩, rfl⟩
    · exact nextEntry_range (p := { p.setOam2 (4 * p.evalFound + k) (p.oamByte (4 * p.evalN + k)) with
        evalFound := p.evalFound + 1 }) hc.1 hm (Nat.succ_le_of_lt (Nat.lt_succ_of_le hc.2.1))
  · rename_i he
    have ho := hover he
    unfold Ppu.evalOverflow
    split
    · exact ⟨(evalWf_iff _).mpr ⟨hn, hm, hf, by simp, by simp, by simp⟩, rfl⟩
    · refine ⟨(evalWf_iff _).mpr ⟨by simp; omega, by simp; omega, hf, ?_, ?_, ?_⟩, rfl⟩
      · intro hx
        dsimp only at hx
        split at hx <;> cases hx
      · intro k hx
        dsimp only at hx
        split at hx <;> cases hx
      · intro hx
        dsimp only at hx ⊢
        split at hx
        · cases hx
        · rename_i h64
          simp only [beq_iff_eq] at h64
          omega
  · exact ⟨h, rfl⟩

theorem spriteEval_range (l d : Nat) {p : Ppu} (h : p.evalWf = true) (hc : p.sprCountLine ≤ 8) :
    (p.spriteEval l d).evalWf = true ∧ (p.spriteEval l d).sprCountLine ≤ 8 := by
  unfold Ppu.spriteEval
  split
  · split
    · exact ⟨(evalWf_iff _).mpr ⟨by simp, by simp, by simp, by simp, by simp, by simp⟩, hc⟩
    · split
      · exact ⟨h, hc⟩
      · split
        · have := evalStep_range l h
          exact ⟨this.1, this.2 ▸ hc⟩
        · split
          · exact ⟨h, ((evalWf_iff p).mp h).2.2.1⟩
          · exact ⟨h, hc⟩
  · split
    · exact ⟨h, Nat.zero_le 8⟩
    · exact ⟨h, hc⟩

theorem spriteEval_kept (l d : Nat) (devs : List Device) (vd : Video) :
    VideoKept devs vd (vd.mapPpu (Ppu.spriteEval l d)) := by
  have hs : EvalFrame vd.ppu (vd.ppu.spriteEval l d) := spriteEval_frame l d vd.ppu
  have hfb : (vd.ppu.spriteEval l d).framebuffer = vd.ppu.framebuffer := by rw [hs]
  refine videoKept_mapPpu (fun h => by rw [hfb]; exact h) (fun h => ?_) (by rw [hs])
  simp only [Ppu.wf, Bool.and_eq_true, decide_eq_true_eq] at h ⊢
  obtain ⟨⟨⟨⟨h1, h2⟩, h3⟩, h4⟩, h5⟩ := h
  have hr := spriteEval_range l d h4 h3
  have hsl : (vd.ppu.spriteEval l d).scanline = vd.ppu.scanline := by rw [hs]
  have hdt : (vd.ppu.spriteEval l d).dot = vd.ppu.dot := by rw [hs]
  rw [hsl, hdt, hfb]
  exact ⟨⟨⟨⟨h1, h2⟩, hr.2⟩, hr.1⟩, h5⟩

theorem spriteOps_kept (l d : Nat) (devs : List Device) (vd : Video) : VideoKept devs vd (spriteOps l d devs vd) := by
  unfold spriteOps
  dsimp only
  split
  · exact ((spriteEval_kept l d devs vd).trans (videoKept_of_same rfl rfl rfl)).trans (spriteFetch_kept _ _ _ devs _)
  · exact spriteEval_kept l d devs vd

theorem renderFetches_kept (l d : Nat) (devs : List Device) (vd : Video) :
    VideoKept devs vd (renderFetches l d devs vd) :=
  ((bgFetch_kept d devs vd).trans (videoKept_of_same rfl rfl rfl)).trans (spriteOps_kept l d devs _)

theorem bgShiftAndReload_kept (d : Nat) (devs : List Device) (vd : Video) :
    VideoKept devs vd (vd.mapPpu (Ppu.bgShiftAndReload d)) := by
  refine videoKept_of_same ?_ ?_ ?_ <;> · unfold Ppu.bgShiftAndReload; (repeat' split) <;> rfl

theorem Cells.set_keys {w : Nat} {m : Cells w} {n k : Nat} (v : BitVec w) (h : m.all (fun c => decide (c.1 < n)) = true)
    (hk : k < n) : (m.set k v).all (fun c => decide (c.1 < n)) = true := by
  induction m with
  | nil =>
    simp only [Cells.set, Cells.put]
    split
    · rfl
    · simpa using hk
  | cons c rest ih =>
    obtain ⟨j, u⟩ := c
    simp only [List.all_cons, Bool.and_eq_true, decide_eq_true_eq] at h
    have hr := h.2
    simp only [Cells.set, Cells.put]
    split
    · split
      · simp [h.1]; simpa using hr
      · simp [h.1, hk]; simpa using hr
    · split
      · split
        · exact hr
        · simp [hk]; simpa using hr
      · have := ih hr
        simp only [List.all_cons, Bool.and_eq_true, decide_eq_true_eq]
        exact ⟨h.1, this⟩

theorem setPixel_wf {p : Ppu} {l col : Nat} (c : BitVec 6) (hl : l ≤ 239) (hc : col < 256) (h : p.wf = true) :
    (p.setPixel l col c).wf = true := by
  simp only [Ppu.wf, Bool.and_eq_true] at h ⊢
  exact ⟨h.1, Cells.set_keys c h.2 (by simp only [Config.fbWidth, Config.fbHeight]; omega)⟩

theorem pixelStage_kept (l d : Nat) (en : Bool) (devs : List Device) (vd : Video) :
    VideoKept devs vd (pixelStage l d en vd) := by
  unfold pixelStage
  split
  · rename_i h
    simp only [Bool.and_eq_true, decide_eq_true_eq] at h
    unfold Ppu.outputPixel
    refine videoKept_mapPpu (fun hw => ?_) (fun hw => ?_) ?_
    · split <;> exact Memory.wf_set _ _ hw
    · split
      · exact setPixel_wf _ h.1.1 (by omega) (p := { vd.ppu with spr0Hit := _ }) hw
      · exact setPixel_wf _ h.1.1 (by omega) hw
    · split <;> rfl
  · exact VideoKept.refl _ _

theorem advance_wf {p : Ppu} {l d : Nat} {en : Bool} (hl : l ≤ 261) (hd : d ≤ 340) (h : p.wf = true) :
    ((p.flagOps l d).advancePosition l d en).wf = true := by
  have hf : (p.flagOps l d).wf = p.wf := by
    unfold Ppu.flagOps
    split
    · rfl
    · split <;> rfl
  rw [← hf] at h
  generalize p.flagOps l d = q at h
  simp only [Ppu.wf, Bool.and_eq_true, decide_eq_true_eq] at h
  unfold Ppu.advancePosition
  split
  · simp only [Ppu.wf, Bool.and_eq_true, decide_eq_true_eq]
    exact ⟨⟨⟨⟨by omega, by omega⟩, h.1.1.2⟩, h.1.2⟩, h.2⟩
  · split
    · rename_i hd'
      simp only [beq_iff_eq] at hd'
      split
      · simp only [Ppu.wf, Bool.and_eq_true, decide_eq_true_eq]
        exact ⟨⟨⟨⟨by omega, by omega⟩, h.1.1.2⟩, h.1.2⟩, h.2⟩
      · rename_i hl'
        simp only [beq_iff_eq] at hl'
        simp only [Ppu.wf, Bool.and_eq_true, decide_eq_true_eq]
        exact ⟨⟨⟨⟨by omega, by omega⟩, h.1.1.2⟩, h.1.2⟩, h.2⟩
    · rename_i hd'
      simp only [beq_iff_eq] at hd'
      simp only [Ppu.wf, Bool.and_eq_true, decide_eq_true_eq]
      exact ⟨⟨⟨⟨h.1.1.1.1, by omega⟩, h.1.1.2⟩, h.1.2⟩, h.2⟩

theorem flagOps_advance_same (l d : Nat) (en : Bool) (p : Ppu) :
    ((p.flagOps l d).advancePosition l d en).framebuffer = p.framebuffer ∧
      ((p.flagOps l d).advancePosition l d en).nmiOut = p.nmiOut := by
  unfold Ppu.advancePosition Ppu.flagOps
  constructor <;> (repeat' split) <;> rfl

/-- The stages of a dot before its flags and its position: shift and reload, pixel, fetches, scroll, sprites (R1300). -/
def dotStages (devs : List Device) (vd : Video) : Video :=
  let l := vd.ppu.scanline
  let d := vd.ppu.dot
  let en := vd.ppu.renderingEnabled
  let vd1 := if isRenderLine l && en then vd.mapPpu (Ppu.bgShiftAndReload d) else vd
  let vd2 := pixelStage l d en vd1
  if isRenderLine l && en then renderFetches l d devs vd2 else vd2

/-- `q` is `p` but for what the last stages of a dot own: the status flags, the position and the NMI output. -/
def FlagFrame (p q : Ppu) : Prop :=
  q = { p with
    vbl := q.vbl
    vblSuppress := q.vblSuppress
    spr0Hit := q.spr0Hit
    sprOverflow := q.sprOverflow
    scanline := q.scanline
    dot := q.dot
    oddFrame := q.oddFrame
    nmiOut := q.nmiOut }

theorem flagOps_advance_frame (l d : Nat) (en : Bool) (p : Ppu) :
    FlagFrame p ((p.flagOps l d).advancePosition l d en) := by
  unfold Ppu.advancePosition Ppu.flagOps FlagFrame
  (repeat' split) <;> rfl

/-- A dot is its stages, and after them changes only flags, position and NMI output (R1300). -/
theorem ppuDot_stages (devs : List Device) (vd : Video) :
    (ppuDot devs vd).bus = (dotStages devs vd).bus ∧ FlagFrame (dotStages devs vd).ppu (ppuDot devs vd).ppu := by
  have h : ppuDot devs vd = updateNmi ((dotStages devs vd).mapPpu fun p =>
      (p.flagOps vd.ppu.scanline vd.ppu.dot).advancePosition vd.ppu.scanline vd.ppu.dot vd.ppu.renderingEnabled) := rfl
  refine ⟨by rw [h, updateNmi_bus]; rfl, ?_⟩
  rw [h, updateNmi_ppu, Video.mapPpu_ppu]
  have hf := flagOps_advance_frame vd.ppu.scanline vd.ppu.dot vd.ppu.renderingEnabled (dotStages devs vd).ppu
  unfold FlagFrame at hf ⊢
  dsimp only
  rw [hf]

/-- Everything a dot must keep (R1300). -/
theorem ppuDot_kept (devs : List Device) (vd : Video) : VideoKept devs vd (ppuDot devs vd) := by
  have hs : VideoKept devs vd (dotStages devs vd) := by
    unfold dotStages
    dsimp only
    split
    · exact ((bgShiftAndReload_kept _ devs vd).trans (pixelStage_kept _ _ _ devs _)).trans
        (renderFetches_kept _ _ devs _)
    · exact pixelStage_kept _ _ _ devs vd
  unfold ppuDot dotAt dotStages at *
  dsimp only at hs ⊢
  refine VideoKept.trans ?_ (updateNmi_kept devs _)
  have hsame := flagOps_advance_same vd.ppu.scanline vd.ppu.dot vd.ppu.renderingEnabled
  refine ⟨hs.bus, fun h => ?_, fun h => ?_, fun h => ?_⟩
  · rw [Video.mapPpu_ppu, (hsame _).1]
    exact hs.canonical h
  · have h' := h
    simp only [Ppu.wf, Bool.and_eq_true, decide_eq_true_eq] at h'
    exact advance_wf h'.1.1.1.1 h'.1.1.1.2 (hs.range h)
  · have := hs.line h
    simp only [Video.nmiWf, Video.mapPpu_nmi, Video.mapPpu_ppu, (hsame _).2] at this ⊢
    exact this

end Sys2Proof.Machine
end

