-- ==== Sys2Proof/Laws/Clock.lean ====
section
/-! SUPPORT. What the passage of master ticks up to a CPU cycle can change (R1110), and that it does not look at the
CPU's registers. -/

namespace Sys2Proof.Machine

/-! ## What every activation keeps -/

/-- Wiring, IRQ sources, device shapes and the forms of the memories are kept; ports that fit raise no Fault. -/
structure StateKept (s t : State) : Prop where
  cpuBus : BusKept s.devices s.cpuBus t.cpuBus
  video : VideoKept s.devices s.video t.video
  irq : t.irq = s.irq
  fits : ∀ ports, portsFit t.devices ports = portsFit s.devices ports
  canonical : devicesWf s.devices = true → devicesWf t.devices = true

theorem StateKept.refl (s : State) : StateKept s s :=
  ⟨BusKept.refl _ _, VideoKept.refl _ _, rfl, fun _ => rfl, id⟩

theorem BusKept.congr {devs devs' : List Device} {b b' : AddressSpace}
    (h : ∀ ports, portsFit devs' ports = portsFit devs ports) (k : BusKept devs' b b') : BusKept devs b b' where
  reads := k.reads
  writes := k.writes
  fault hr hw := k.fault (by rw [h]; exact hr) (by rw [h]; exact hw)

theorem VideoKept.congr {devs devs' : List Device} {v v' : Video}
    (h : ∀ ports, portsFit devs' ports = portsFit devs ports) (k : VideoKept devs' v v') : VideoKept devs v v' :=
  ⟨k.bus.congr h, k.canonical, k.range, k.line⟩

theorem StateKept.trans {s t u : State} (h : StateKept s t) (k : StateKept t u) : StateKept s u where
  cpuBus := h.cpuBus.trans (k.cpuBus.congr h.fits)
  video := h.video.trans (k.video.congr h.fits)
  irq := k.irq.trans h.irq
  fits ports := (k.fits ports).trans (h.fits ports)
  canonical := k.canonical ∘ h.canonical

/-- `ready`, as what it says. -/
theorem ready_iff (s : State) : s.ready = true ↔
    (portsFit s.devices s.cpuBus.reads = true ∧ portsFit s.devices s.cpuBus.writes = true ∧
      portsFit s.devices s.video.bus.reads = true ∧ portsFit s.devices s.video.bus.writes = true) ∧
    (devicesWf s.devices = true ∧ Memory.wf s.video.ppu.framebuffer = true) ∧
    s.cpuBus.fault = none ∧ s.video.bus.fault = none := by
  unfold State.ready State.busFits State.memoryWf State.faulted devicesWf
  simp only [Bool.and_eq_true, Bool.not_eq_true', Bool.or_eq_false_iff, Option.isSome_eq_false_iff,
    Option.isNone_iff_eq_none]
  tauto

theorem StateKept.ready {s t : State} (h : StateKept s t) (hs : s.ready = true) : t.ready = true := by
  obtain ⟨⟨h1, h2, h3, h4⟩, ⟨h5, h6⟩, h7, h8⟩ := (ready_iff s).mp hs
  refine (ready_iff t).mpr ⟨⟨?_, ?_, ?_, ?_⟩, ⟨h.canonical h5, h.video.canonical h6⟩, h.cpuBus.fault h1 h2 h7,
    h.video.bus.fault h3 h4 h8⟩
  · rw [h.fits, h.cpuBus.reads]; exact h1
  · rw [h.fits, h.cpuBus.writes]; exact h2
  · rw [h.fits, h.video.bus.reads]; exact h3
  · rw [h.fits, h.video.bus.writes]; exact h4

theorem StateKept.sameWiring {s t : State} (h : StateKept s t) : SameWiring s t :=
  ⟨h.irq, h.cpuBus.reads, h.cpuBus.writes, h.video.bus.reads, h.video.bus.writes⟩

theorem ready_not_faulted {s : State} (h : s.ready = true) : s.faulted = false := by
  simp only [State.ready, Bool.and_eq_true, Bool.not_eq_true'] at h
  exact h.2

/-- Readiness does not look at the CPU, the scheduler or the diagnostics. -/
@[simp] theorem ready_setCpu (s : State) (c : Cpu) : (s.setCpu c).ready = s.ready := rfl
@[simp] theorem ready_mapCpu (s : State) (f : Cpu → Cpu) : (s.mapCpu f).ready = s.ready := rfl
@[simp] theorem ready_setSched (s : State) (c : Sched) : (s.setSched c).ready = s.ready := rfl
@[simp] theorem ready_logDiagnostic (s : State) (d : Diagnostic) : (s.logDiagnostic d).ready = s.ready := rfl

/-! ## The state as a machine with a CPU put into it -/

@[simp] theorem setCpu_self (s : State) : s.setCpu s.cpu = s := rfl
@[simp] theorem setCpu_setCpu (s : State) (c d : Cpu) : (s.setCpu c).setCpu d = s.setCpu d := rfl
@[simp] theorem mapCpu_setCpu (s : State) (c : Cpu) (f : Cpu → Cpu) : (s.setCpu c).mapCpu f = s.setCpu (f c) := rfl
theorem mapCpu_eq (s : State) (f : Cpu → Cpu) : s.mapCpu f = s.setCpu (f s.cpu) := rfl

/-! ## Ticks -/

theorem tickBeforeCpu_setCpu (s : State) (c : Cpu) :
    (s.setCpu c).tickBeforeCpu = (s.tickBeforeCpu.1.setCpu c, s.tickBeforeCpu.2) := by
  unfold State.tickBeforeCpu
  by_cases h : s.sched.tick.2.1 = true
  · rw [if_pos h, if_pos (show (s.setCpu c).sched.tick.2.1 = true from h)]
    rfl
  · rw [if_neg h, if_neg (show ¬(s.setCpu c).sched.tick.2.1 = true from h)]
    rfl

/-- A tick before the CPU's cycle changes the PPU's side and the scheduler only (R1110). -/
theorem tickBeforeCpu_same (s : State) : s.tickBeforeCpu.1.cpu = s.cpu ∧ s.tickBeforeCpu.1.cpuBus = s.cpuBus ∧
    s.tickBeforeCpu.1.devices = s.devices ∧ s.tickBeforeCpu.1.irq = s.irq ∧
    s.tickBeforeCpu.1.diagnostics = s.diagnostics ∧ s.tickBeforeCpu.1.sched = s.sched.tick.1 ∧
    s.tickBeforeCpu.2 = s.sched.tick.2.2 ∧
    s.tickBeforeCpu.1.video = (if s.sched.tick.2.1 then ppuDot s.devices s.video else s.video) := by
  unfold State.tickBeforeCpu
  refine ⟨?_, ?_, ?_, ?_, ?_, rfl, rfl, ?_⟩ <;> (dsimp only [State.setSched]; split <;> rfl)

theorem tickBeforeCpu_kept (s : State) : StateKept s s.tickBeforeCpu.1 := by
  obtain ⟨-, hb, hd, hi, -, -, -, hv⟩ := tickBeforeCpu_same s
  refine ⟨by rw [hb]; exact BusKept.refl _ _, ?_, hi, fun _ => by rw [hd], fun h => by rw [hd]; exact h⟩
  rw [hv]
  split
  · exact ppuDot_kept _ _
  · exact VideoKept.refl _ _

theorem awaitTicks_setCpu (n : Nat) (s : State) (c : Cpu) :
    awaitTicks n (s.setCpu c) = (awaitTicks n s).setCpu c := by
  induction n generalizing s with
  | zero => rfl
  | succ n ih =>
    simp only [awaitTicks, tickBeforeCpu_setCpu]
    split
    · rfl
    · exact ih _

theorem awaitTicks_same (n : Nat) (s : State) : (awaitTicks n s).cpu = s.cpu ∧ (awaitTicks n s).cpuBus = s.cpuBus ∧
    (awaitTicks n s).devices = s.devices ∧ (awaitTicks n s).irq = s.irq ∧
    (awaitTicks n s).diagnostics = s.diagnostics := by
  induction n generalizing s with
  | zero => exact ⟨rfl, rfl, rfl, rfl, rfl⟩
  | succ n ih =>
    obtain ⟨h1, h2, h3, h4, h5, -⟩ := tickBeforeCpu_same s
    simp only [awaitTicks]
    split
    · exact ⟨h1, h2, h3, h4, h5⟩
    · obtain ⟨k1, k2, k3, k4, k5⟩ := ih s.tickBeforeCpu.1
      exact ⟨k1.trans h1, k2.trans h2, k3.trans h3, k4.trans h4, k5.trans h5⟩

theorem awaitTicks_kept (n : Nat) (s : State) : StateKept s (awaitTicks n s) := by
  induction n generalizing s with
  | zero => exact StateKept.refl s
  | succ n ih =>
    simp only [awaitTicks]
    split
    · exact tickBeforeCpu_kept s
    · exact (tickBeforeCpu_kept s).trans (ih _)

@[simp] theorem awaitCpu_setCpu (s : State) (c : Cpu) : (s.setCpu c).awaitCpu = s.awaitCpu.setCpu c :=
  awaitTicks_setCpu _ s c

@[simp] theorem awaitCpu_cpu (s : State) : s.awaitCpu.cpu = s.cpu := (awaitTicks_same _ s).1
@[simp] theorem awaitCpu_cpuBus (s : State) : s.awaitCpu.cpuBus = s.cpuBus := (awaitTicks_same _ s).2.1
@[simp] theorem awaitCpu_devices (s : State) : s.awaitCpu.devices = s.devices := (awaitTicks_same _ s).2.2.1
@[simp] theorem awaitCpu_irq (s : State) : s.awaitCpu.irq = s.irq := (awaitTicks_same _ s).2.2.2.1
@[simp] theorem awaitCpu_diagnostics (s : State) : s.awaitCpu.diagnostics = s.diagnostics :=
  (awaitTicks_same _ s).2.2.2.2

theorem awaitCpu_kept (s : State) : StateKept s s.awaitCpu := awaitTicks_kept _ s

end Sys2Proof.Machine
end

