-- ==== Sys2Proof/Laws/Access.lean ====
section
/-! SUPPORT. What a CPU bus access can change (R210, R211, R1240), and that it does not look at the CPU's registers. -/

namespace Sys2Proof.Machine

/-! ## Reads -/

/-- A read changes the latch side of the CPU space and the PPU's side only. -/
theorem cpuRead_same (a : Word) (s : State) : (cpuRead a s).2.cpu = s.cpu ∧ (cpuRead a s).2.devices = s.devices ∧
    (cpuRead a s).2.irq = s.irq ∧ (cpuRead a s).2.sched = s.sched ∧ (cpuRead a s).2.diagnostics = s.diagnostics := by
  unfold cpuRead State.readTarget
  split
  · split <;> exact ⟨rfl, rfl, rfl, rfl, rfl⟩
  · exact ⟨rfl, rfl, rfl, rfl, rfl⟩

theorem cpuRead_setCpu (a : Word) (s : State) (c : Cpu) :
    cpuRead a (s.setCpu c) = ((cpuRead a s).1, (cpuRead a s).2.setCpu c) := by
  unfold cpuRead State.readTarget
  simp only [State.setCpu_cpuBus, State.setCpu_devices, State.setCpu_video]
  split
  · split <;> rfl
  · rfl

theorem cpuRead_kept (a : Word) (s : State) : StateKept s (cpuRead a s).2 := by
  obtain ⟨-, hd, hi, -, -⟩ := cpuRead_same a s
  have key : BusKept s.devices s.cpuBus (cpuRead a s).2.cpuBus ∧
      VideoKept s.devices s.video (cpuRead a s).2.video := by
    have hr := AddressSpace.read_kept .cpu s.devices s.cpuBus a.toNat
    unfold AddressSpace.read at hr
    unfold cpuRead State.readTarget
    split
    · rename_i id d off h
      rw [h] at hr
      split
      · exact ⟨⟨rfl, rfl, fun _ _ hf => hf⟩, ppuRegisterRead_kept _ _ _⟩
      · exact ⟨hr, VideoKept.refl _ _⟩
    · exact ⟨hr, VideoKept.refl _ _⟩
  exact ⟨key.1, key.2, hi, fun _ => by rw [hd], fun h => by rw [hd]; exact h⟩

/-! ## OAM DMA -/

theorem dmaCopy_succ (page : Byte) (n : Nat) (i : Byte) (s : State) : dmaCopy page (n + 1) i s =
    dmaCopy page n (i + 1) ((cpuRead (joinBytes page i) s).2.setVideo
      (ppuRegisterWrite 4 (cpuRead (joinBytes page i) s).1 (cpuRead (joinBytes page i) s).2.devices
        (cpuRead (joinBytes page i) s).2.video).2) := rfl

theorem dmaCopy_setCpu (page : Byte) (n : Nat) (i : Byte) (s : State) (c : Cpu) :
    dmaCopy page n i (s.setCpu c) = (dmaCopy page n i s).setCpu c := by
  induction n generalizing i s with
  | zero => rfl
  | succ n ih =>
    rw [dmaCopy_succ, dmaCopy_succ, cpuRead_setCpu, ← ih]
    rfl

theorem dmaCopy_same (page : Byte) (n : Nat) (i : Byte) (s : State) : (dmaCopy page n i s).cpu = s.cpu ∧
    (dmaCopy page n i s).devices = s.devices ∧ (dmaCopy page n i s).irq = s.irq ∧
    (dmaCopy page n i s).sched = s.sched ∧ (dmaCopy page n i s).diagnostics = s.diagnostics := by
  induction n generalizing i s with
  | zero => exact ⟨rfl, rfl, rfl, rfl, rfl⟩
  | succ n ih =>
    obtain ⟨h1, h2, h3, h4, h5⟩ := cpuRead_same (joinBytes page i) s
    obtain ⟨k1, k2, k3, k4, k5⟩ := ih (i + 1) ((cpuRead (joinBytes page i) s).2.setVideo
      (ppuRegisterWrite 4 (cpuRead (joinBytes page i) s).1 (cpuRead (joinBytes page i) s).2.devices
        (cpuRead (joinBytes page i) s).2.video).2)
    exact ⟨k1.trans h1, k2.trans h2, k3.trans h3, k4.trans h4, k5.trans h5⟩

theorem dmaCopy_kept (page : Byte) (n : Nat) (i : Byte) (s : State) : StateKept s (dmaCopy page n i s) := by
  induction n generalizing i s with
  | zero => exact StateKept.refl s
  | succ n ih =>
    refine StateKept.trans ((cpuRead_kept (joinBytes page i) s).trans ?_) (ih (i + 1) _)
    exact ⟨BusKept.refl _ _, ppuRegisterWrite_kept _ _ _ _, rfl, fun _ => rfl, id⟩

/-! ## Writes -/

theorem writeDevice_setCpu (v : Byte) (t : Target) (s : State) (c : Cpu) :
    (s.setCpu c).writeDevice v t = (s.writeDevice v t).setCpu c := by
  unfold State.writeDevice
  split
  · split <;> rfl
  · rfl

theorem oamDma_setCpu (page : Byte) (s : State) (c : Cpu) : oamDma page (s.setCpu c) = (oamDma page s).setCpu c := by
  unfold oamDma
  rw [dmaCopy_setCpu]
  generalize dmaCopy page 256 0 s = q
  rfl

/-- What a DMA leaves alone; of the scheduler it changes the CPU's skip only (R1240). -/
theorem oamDma_same (page : Byte) (s : State) : (oamDma page s).cpu = s.cpu ∧ (oamDma page s).devices = s.devices ∧
    (oamDma page s).irq = s.irq ∧ (oamDma page s).diagnostics = s.diagnostics ∧
    (oamDma page s).sched = { s.sched with cpu := s.sched.cpu.requestSkip (dmaStall s.sched.cpuCycles) } := by
  obtain ⟨k1, k2, k3, k4, k5⟩ := dmaCopy_same page 256 0 s
  unfold oamDma
  generalize dmaCopy page 256 0 s = q at *
  exact ⟨k1, k2, k3, k5, by rw [← k4]; rfl⟩

theorem oamDma_kept (page : Byte) (s : State) : StateKept s (oamDma page s) := by
  have h := dmaCopy_kept page 256 0 s
  unfold oamDma
  generalize dmaCopy page 256 0 s = q at *
  exact ⟨h.cpuBus, h.video, h.irq, h.fits, h.canonical⟩

theorem cpuWrite_setCpu (a : Word) (v : Byte) (s : State) (c : Cpu) :
    cpuWrite a v (s.setCpu c) = (cpuWrite a v s).setCpu c := by
  unfold cpuWrite State.writeTarget
  rw [State.setCpu_cpuBus, State.setCpu_devices, writeDevice_setCpu]
  by_cases h : (resolve s.cpuBus.writes s.devices a.toNat).isOamDma = true
  · simp only [if_pos h]
    rw [← oamDma_setCpu]
    rfl
  · simp only [if_neg h]
    rfl

/-- The device side of a write, before the latch and any DMA. -/
theorem writeDevice_same (v : Byte) (t : Target) (s : State) : (s.writeDevice v t).cpu = s.cpu ∧
    (s.writeDevice v t).cpuBus = s.cpuBus ∧ (s.writeDevice v t).irq = s.irq ∧
    (s.writeDevice v t).sched = s.sched ∧ (s.writeDevice v t).diagnostics = s.diagnostics := by
  unfold State.writeDevice
  split
  · split <;> exact ⟨rfl, rfl, rfl, rfl, rfl⟩
  · exact ⟨rfl, rfl, rfl, rfl, rfl⟩

/-- The devices after a CPU write, DMA or not: at most one memory store, in the CPU space or through PPUDATA. -/
theorem cpuWrite_devices (a : Word) (v : Byte) (s : State) :
    (cpuWrite a v s).devices = (s.writeDevice v (resolve s.cpuBus.writes s.devices a.toNat)).devices := by
  unfold cpuWrite State.writeTarget
  dsimp only
  split
  · exact (oamDma_same _ _).2.1
  · rfl

/-- A CPU write keeps the registers, the lines and the record; of the scheduler it can change the CPU's skip only. -/
theorem cpuWrite_same (a : Word) (v : Byte) (s : State) : (cpuWrite a v s).cpu = s.cpu ∧
    (cpuWrite a v s).irq = s.irq ∧ (cpuWrite a v s).diagnostics = s.diagnostics ∧
    (cpuWrite a v s).sched.masterTick = s.sched.masterTick ∧ (cpuWrite a v s).sched.ppu = s.sched.ppu ∧
    (cpuWrite a v s).sched.cpuCycles = s.sched.cpuCycles ∧
    (cpuWrite a v s).sched.cpu.divisor = s.sched.cpu.divisor ∧
    (cpuWrite a v s).sched.cpu.countdown = s.sched.cpu.countdown := by
  obtain ⟨h1, -, h3, h4, h5⟩ := writeDevice_same v (resolve s.cpuBus.writes s.devices a.toNat) s
  unfold cpuWrite State.writeTarget
  dsimp only
  split
  · obtain ⟨k1, -, k3, k4, k5⟩ := oamDma_same v
      ((s.writeDevice v (resolve s.cpuBus.writes s.devices a.toNat)).setCpuBus
        ((s.writeDevice v (resolve s.cpuBus.writes s.devices a.toNat)).cpuBus.writeLatch v
          (resolve s.cpuBus.writes s.devices a.toNat)))
    rw [k1, k3, k4, k5]
    refine ⟨h1, h3, h5, ?_, ?_, ?_, ?_, ?_⟩
    · exact (congrArg Sched.masterTick h4 :)
    · exact (congrArg Sched.ppu h4 :)
    · exact (congrArg Sched.cpuCycles h4 :)
    · exact (congrArg (fun c => c.cpu.divisor) h4 :)
    · exact (congrArg (fun c => c.cpu.countdown) h4 :)
  · exact ⟨h1, h3, h5, congrArg Sched.masterTick h4, congrArg Sched.ppu h4, congrArg Sched.cpuCycles h4,
      congrArg (fun c => c.cpu.divisor) h4, congrArg (fun c => c.cpu.countdown) h4⟩

theorem writeDevice_kept (v : Byte) (addr : Nat) (s : State) :
    StateKept s (s.writeDevice v (resolve s.cpuBus.writes s.devices addr)) := by
  have hpf := fun ports' => portsFit_storeTarget s.cpuBus.writes ports' s.devices addr v
  have hwf := devicesWf_storeTarget (devs := s.devices) s.cpuBus.writes addr v
  unfold State.writeDevice
  split
  · rename_i id d off h
    rw [h] at hpf hwf
    split
    · refine ⟨BusKept.refl _ _, ppuRegisterWrite_kept _ _ _ _, rfl, fun ports => ?_, fun hd => ?_⟩
      · show portsFit (ppuRegisterWrite (registerOf off) v s.devices s.video).1 ports = _
        rw [ppuRegisterWrite_devices]
        split
        · exact portsFit_storeTarget _ _ _ _ _
        · rfl
      · show devicesWf (ppuRegisterWrite (registerOf off) v s.devices s.video).1 = true
        rw [ppuRegisterWrite_devices]
        split
        · exact devicesWf_storeTarget _ _ _ hd
        · exact hd
    · exact ⟨BusKept.refl _ _, VideoKept.refl _ _, rfl, hpf, hwf⟩
  · exact StateKept.refl s

theorem cpuWrite_kept (a : Word) (v : Byte) (s : State) : StateKept s (cpuWrite a v s) := by
  have h1 := writeDevice_kept v a.toNat s
  have hb := (writeDevice_same v (resolve s.cpuBus.writes s.devices a.toNat) s).2.1
  have h2 : StateKept s ((s.writeDevice v (resolve s.cpuBus.writes s.devices a.toNat)).setCpuBus
      ((s.writeDevice v (resolve s.cpuBus.writes s.devices a.toNat)).cpuBus.writeLatch v
        (resolve s.cpuBus.writes s.devices a.toNat))) := by
    refine ⟨?_, h1.video, h1.irq, h1.fits, h1.canonical⟩
    rw [State.setCpuBus_cpuBus, hb]
    exact AddressSpace.writeLatch_kept _ _ _ _
  unfold cpuWrite State.writeTarget
  dsimp only
  split
  · exact h2.trans (oamDma_kept v _)
  · exact h2

theorem writeDevice_other {d : Device} (hk : d.kind ≠ .ppuRegisters) (v : Byte) (id off : Nat) (s : State) :
    s.writeDevice v (.hit id d off) = s.setDevices (storeTarget s.devices v (.hit id d off)) := by
  unfold State.writeDevice
  dsimp only
  split
  · exact absurd ‹_› hk
  · rfl

theorem writeDevice_register {d : Device} (hk : d.kind = .ppuRegisters) (v : Byte) (id off : Nat) (s : State) :
    (s.writeDevice v (.hit id d off)).devices = if registerOf off = 7 ∧ s.video.ppu.dataAddr < 0x3F00 then
      storeTarget s.devices v (resolve s.video.bus.writes s.devices (ppuAddr s.video.ppu.dataAddr))
      else s.devices := by
  rw [← ppuRegisterWrite_devices]
  unfold State.writeDevice
  dsimp only
  rw [hk]
  rfl

theorem storesTo_other {s : State} {a : Word} {d : Device} {id off : Nat}
    (h : resolve s.cpuBus.writes s.devices a.toNat = .hit id d off) (hk : d.kind ≠ .ppuRegisters) :
    s.storesTo a = (Target.hit id d off).ramCell := by
  unfold State.storesTo
  rw [h]
  dsimp only
  split
  · exact absurd ‹_› hk
  · rfl

theorem storesTo_register {s : State} {a : Word} {d : Device} {id off : Nat}
    (h : resolve s.cpuBus.writes s.devices a.toNat = .hit id d off) (hk : d.kind = .ppuRegisters) :
    s.storesTo a = if registerOf off = 7 ∧ s.video.ppu.dataAddr < 0x3F00 then
      (resolve s.video.bus.writes s.devices (ppuAddr s.video.ppu.dataAddr)).ramCell else none := by
  unfold State.storesTo
  rw [h]
  dsimp only
  rw [hk]
  dsimp only
  simp only [Bool.and_eq_true, decide_eq_true_eq]

/-- A CPU write changes the one memory cell `storesTo` names, to the byte written, and no other. -/
theorem cpuWrite_cell (a : Word) (v : Byte) (s : State) (dev idx : Nat) (h : devicesWf s.devices = true) :
    (cpuWrite a v s).cell dev idx = if s.storesTo a = some (dev, idx) then v else s.cell dev idx := by
  rw [State.cell_eq, State.cell_eq, cpuWrite_devices]
  have hs := cellOf_storeTarget (devs := s.devices) s.cpuBus.writes a.toNat v dev idx h
  cases ht : resolve s.cpuBus.writes s.devices a.toNat with
  | absent => simp [State.storesTo, ht, State.writeDevice]
  | pastDevice => simp [State.storesTo, ht, State.writeDevice]
  | hit id d off =>
    by_cases hk : d.kind = .ppuRegisters
    · rw [writeDevice_register hk, storesTo_register ht hk]
      split
      · exact cellOf_storeTarget _ _ _ _ _ h
      · simp
    · rw [writeDevice_other hk, storesTo_other ht hk, ← ht]
      exact hs

/-! ## One bus cycle -/

theorem busRead_kept (a : Word) (s : State) : StateKept s (busRead a s).2 := by
  unfold busRead
  exact (awaitCpu_kept s).trans (cpuRead_kept a _)

theorem busWrite_kept (a : Word) (v : Byte) (s : State) : StateKept s (busWrite a v s) := by
  unfold busWrite
  exact (awaitCpu_kept s).trans (cpuWrite_kept a v _)

theorem busRead_setCpu (a : Word) (s : State) (c : Cpu) :
    busRead a (s.setCpu c) = ((busRead a s).1, (busRead a s).2.setCpu c) := by
  unfold busRead
  rw [awaitCpu_setCpu, cpuRead_setCpu]

theorem busWrite_setCpu (a : Word) (v : Byte) (s : State) (c : Cpu) :
    busWrite a v (s.setCpu c) = (busWrite a v s).setCpu c := by
  unfold busWrite
  rw [awaitCpu_setCpu, cpuWrite_setCpu]

@[simp] theorem busRead_cpu (a : Word) (s : State) : (busRead a s).2.cpu = s.cpu := by
  unfold busRead
  exact (cpuRead_same a _).1.trans (awaitCpu_cpu s)
@[simp] theorem busRead_devices (a : Word) (s : State) : (busRead a s).2.devices = s.devices := by
  unfold busRead
  exact (cpuRead_same a _).2.1.trans (awaitCpu_devices s)
@[simp] theorem busRead_irq (a : Word) (s : State) : (busRead a s).2.irq = s.irq := by
  unfold busRead
  exact (cpuRead_same a _).2.2.1.trans (awaitCpu_irq s)
@[simp] theorem busRead_diagnostics (a : Word) (s : State) : (busRead a s).2.diagnostics = s.diagnostics := by
  unfold busRead
  exact (cpuRead_same a _).2.2.2.2.trans (awaitCpu_diagnostics s)
@[simp] theorem busWrite_cpu (a : Word) (v : Byte) (s : State) : (busWrite a v s).cpu = s.cpu := by
  unfold busWrite
  exact (cpuWrite_same a v _).1.trans (awaitCpu_cpu s)
@[simp] theorem busWrite_irq (a : Word) (v : Byte) (s : State) : (busWrite a v s).irq = s.irq := by
  unfold busWrite
  exact (cpuWrite_same a v _).2.1.trans (awaitCpu_irq s)
@[simp] theorem busWrite_diagnostics (a : Word) (v : Byte) (s : State) : (busWrite a v s).diagnostics = s.diagnostics := by
  unfold busWrite
  exact (cpuWrite_same a v _).2.2.1.trans (awaitCpu_diagnostics s)

/-- A bus write changes the one cell `storesTo` names at its cycle. -/
theorem busWrite_cell (a : Word) (v : Byte) (s : State) (dev idx : Nat) (h : s.ready = true) :
    (busWrite a v s).cell dev idx = if s.awaitCpu.storesTo a = some (dev, idx) then v else s.cell dev idx := by
  have hd : devicesWf s.devices = true := ((ready_iff s).mp h).2.1.1
  have := cpuWrite_cell a v s.awaitCpu dev idx (by rw [awaitCpu_devices]; exact hd)
  simp only [State.cell_eq, awaitCpu_devices] at this
  simp only [State.cell_eq, busWrite]
  exact this

theorem busRead_ready {a : Word} {s : State} (h : s.ready = true) : (busRead a s).2.ready = true :=
  (busRead_kept a s).ready h

theorem busWrite_ready {a : Word} {v : Byte} {s : State} (h : s.ready = true) : (busWrite a v s).ready = true :=
  (busWrite_kept a v s).ready h

/-! ## Reads only -/

theorem memoryByte_congr {s t : State} (hd : t.devices = s.devices) (hr : t.cpuBus.reads = s.cpuBus.reads)
    (addr : Word) : t.memoryByte addr = s.memoryByte addr := by
  unfold State.memoryByte
  rw [hd, hr]

theorem readsOnly_of {s t : State} (hk : StateKept s t) (hd : t.devices = s.devices)
    (hg : t.diagnostics = s.diagnostics) : ReadsOnly s t :=
  ⟨hd, memoryByte_congr hd hk.cpuBus.reads, hk.sameWiring, hg⟩

theorem ReadsOnly.trans {s t u : State} (h : ReadsOnly s t) (k : ReadsOnly t u) : ReadsOnly s u :=
  ⟨k.1.trans h.1, fun a => (k.2.1 a).trans (h.2.1 a),
   ⟨k.2.2.1.1.trans h.2.2.1.1, k.2.2.1.2.1.trans h.2.2.1.2.1, k.2.2.1.2.2.1.trans h.2.2.1.2.2.1,
    k.2.2.1.2.2.2.1.trans h.2.2.1.2.2.2.1, k.2.2.1.2.2.2.2.trans h.2.2.1.2.2.2.2⟩, k.2.2.2.trans h.2.2.2⟩

theorem ReadsOnly.refl (s : State) : ReadsOnly s s := readsOnly_of (StateKept.refl s) rfl rfl

theorem busRead_readsOnly (a : Word) (s : State) : ReadsOnly s (busRead a s).2 :=
  readsOnly_of (busRead_kept a s) (busRead_devices a s) (busRead_diagnostics a s)

end Sys2Proof.Machine
end

