-- ==== Sys2Proof/Laws/Run.lean ====
section
/-! SUPPORT. What running cycles, whole programs and their ends comes to, over a machine `M` with the CPU `c` put
into it. -/

namespace Sys2Proof.Machine

/-! ## Cycles -/

@[simp] theorem runCycles_nil (s : State) : runCycles [] s = s := rfl

theorem runCycles_read (a : Cpu → Word) (k : Byte → Cpu → Cpu) (cs : List Cycle) (M : State) (c : Cpu) :
    runCycles (readCycle a k :: cs) (M.setCpu c) =
      runCycles cs ((busRead (a c) M).2.setCpu (k (busRead (a c) M).1 c).nextCycle) := by
  unfold busRead
  simp only [runCycles, runCycle, readCycle, awaitCpu_setCpu, cpuRead_setCpu, State.setCpu_cpu, mapCpu_setCpu,
    Bool.false_eq_true, ↓reduceIte]

theorem runCycles_write (a : Cpu → Word) (v : Cpu → Byte) (k : Cpu → Cpu) (cs : List Cycle) (M : State) (c : Cpu) :
    runCycles (writeCycle a v k :: cs) (M.setCpu c) =
      runCycles cs ((busWrite (a c) (v c) M).setCpu (k c).nextCycle) := by
  unfold busWrite
  simp only [runCycles, runCycle, writeCycle, awaitCpu_setCpu, cpuWrite_setCpu, State.setCpu_cpu, mapCpu_setCpu,
    Bool.false_eq_true, ↓reduceIte]

/-- An index that carries: a dummy read of the wrong page, and the list goes on (R432). -/
theorem runCycles_indexRead_carry (idx : Cpu → Byte) (cs : List Cycle) (M : State) (c : Cpu)
    (h : carries c.lo (idx c) = true) :
    runCycles (indexRead idx :: cs) (M.setCpu c) =
      runCycles cs ((busRead (uncarried idx c) M).2.setCpu
        ((((c.setVal (busRead (uncarried idx c) M).1).setEa (indexed idx c)).setCrossed
          (carries c.lo (idx c))).nextCycle)) := by
  unfold busRead
  simp only [runCycles, runCycle, indexRead, readCycle, awaitCpu_setCpu, cpuRead_setCpu, State.setCpu_cpu,
    mapCpu_setCpu, h, Bool.not_true, Bool.false_eq_true, ↓reduceIte]

/-- An index that does not carry: the access reads the operand and the sequence ends (R432). -/
theorem runCycles_indexRead_done (idx : Cpu → Byte) (cs : List Cycle) (M : State) (c : Cpu)
    (h : carries c.lo (idx c) = false) :
    runCycles (indexRead idx :: cs) (M.setCpu c) = (busRead (uncarried idx c) M).2.setCpu
        ((((c.setVal (busRead (uncarried idx c) M).1).setEa (indexed idx c)).setCrossed
          (carries c.lo (idx c))).nextCycle) := by
  unfold busRead
  simp only [runCycles, runCycle, indexRead, readCycle, awaitCpu_setCpu, cpuRead_setCpu, State.setCpu_cpu,
    mapCpu_setCpu, h, Bool.not_false, ↓reduceIte]

/-- A taken branch inside the page is done at T3 (R450). -/
theorem runCycles_branchT3_done (cs : List Cycle) (M : State) (c : Cpu) (h : branchCrosses c = false) :
    runCycles (branchT3 :: cs) (M.setCpu c) =
      (busRead c.pc M).2.setCpu (((c.setPc (branchTarget c)).setCrossed false).nextCycle) := by
  unfold busRead
  simp only [runCycles, runCycle, branchT3, readCycle, awaitCpu_setCpu, cpuRead_setCpu, State.setCpu_cpu,
    mapCpu_setCpu, h, Bool.not_false, Bool.false_eq_true, ↓reduceIte]

/-- A branch to another page goes on to T4 (R450). -/
theorem runCycles_branchT3_cross (cs : List Cycle) (M : State) (c : Cpu) (h : branchCrosses c = true) :
    runCycles (branchT3 :: cs) (M.setCpu c) =
      runCycles cs ((busRead c.pc M).2.setCpu ((c.setCrossed true).nextCycle)) := by
  unfold busRead
  simp only [runCycles, runCycle, branchT3, readCycle, awaitCpu_setCpu, cpuRead_setCpu, State.setCpu_cpu,
    mapCpu_setCpu, h, Bool.not_true, Bool.false_eq_true, ↓reduceIte]

/-! ## What every list of cycles keeps -/

/-- A cycle whose machine side keeps what activations keep. -/
def Cycle.Keeps (c : Cycle) : Prop := ∀ s, StateKept s (c s).1

theorem StateKept.mapCpu {s t : State} (h : StateKept s t) (f : Cpu → Cpu) : StateKept s (t.mapCpu f) :=
  ⟨h.cpuBus, h.video, h.irq, h.fits, h.canonical⟩

theorem StateKept.setCpu {s t : State} (h : StateKept s t) (c : Cpu) : StateKept s (t.setCpu c) :=
  ⟨h.cpuBus, h.video, h.irq, h.fits, h.canonical⟩

theorem readCycle_keeps (a : Cpu → Word) (k : Byte → Cpu → Cpu) : Cycle.Keeps (readCycle a k) :=
  fun s => (cpuRead_kept _ s).mapCpu _

theorem writeCycle_keeps (a : Cpu → Word) (v : Cpu → Byte) (k : Cpu → Cpu) : Cycle.Keeps (writeCycle a v k) :=
  fun s => (cpuWrite_kept _ _ s).mapCpu _

theorem indexRead_keeps (idx : Cpu → Byte) : Cycle.Keeps (indexRead idx) := fun s => by
  exact readCycle_keeps (uncarried idx)
    (fun b c => ((c.setVal b).setEa (indexed idx c)).setCrossed (carries c.lo (idx c))) s

theorem branchT3_keeps : Cycle.Keeps branchT3 := fun s => by
  exact readCycle_keeps Cpu.pc
    (fun _ c => (if branchCrosses c then c else c.setPc (branchTarget c)).setCrossed (branchCrosses c)) s

theorem runCycles_kept (cs : List Cycle) (h : ∀ c ∈ cs, Cycle.Keeps c) (s : State) :
    StateKept s (runCycles cs s) := by
  induction cs generalizing s with
  | nil => exact StateKept.refl s
  | cons c cs ih =>
    have h1 : StateKept s (runCycle c s.awaitCpu).1 :=
      (awaitCpu_kept s).trans ((h c (List.mem_cons_self ..) s.awaitCpu).mapCpu _)
    simp only [runCycles]
    split
    · exact h1
    · exact h1.trans (ih (fun d hd => h d (List.mem_cons_of_mem _ hd)) _)

/-! ## The end of an instruction -/

theorem isAsserted_fst (l : NmiLine) : l.isAsserted.1 = l.edgePending := rfl
theorem isAsserted_snd (l : NmiLine) : l.isAsserted.2 = { l with edgePending := false } := rfl

/-- The end of CLI, SEI and PLP: no line is looked at (R108, R1020). -/
theorem endInstruction_inhibit (M : State) (c : Cpu) :
    endInstruction true (M.setCpu c) = M.setCpu ((c.setInhibit true).enter .fetch) := rfl

/-- The end of any other instruction: the NMI line is read, and the next phase chosen (R1020). -/
theorem endInstruction_poll (M : State) (c : Cpu) :
    endInstruction false (M.setCpu c) = (M.setVideo (M.video.setNmi M.video.nmi.isAsserted.2)).setCpu
      ((c.setInhibit false).enter (M.pollPhase false c.p.i)) := by
  show (if M.video.nmi.edgePending = true then
      (M.setVideo (M.video.setNmi M.video.nmi.isAsserted.2)).setCpu ((c.setInhibit false).enter (.interrupt .nmi))
    else if (M.irq.isAsserted && !c.p.i) = true then
      (M.setVideo (M.video.setNmi M.video.nmi.isAsserted.2)).setCpu ((c.setInhibit false).enter (.interrupt .irq))
    else (M.setVideo (M.video.setNmi M.video.nmi.isAsserted.2)).setCpu ((c.setInhibit false).enter .fetch)) = _
  unfold State.pollPhase
  rw [if_neg Bool.false_ne_true]
  split
  · rfl
  · split <;> rfl

/-- The end of an instruction, said as what it leaves (R403, R1020). -/
theorem endInstruction_ends (inhibit : Bool) (M : State) (c : Cpu) :
    Ends inhibit M c.regs (endInstruction inhibit (M.setCpu c)) := by
  cases inhibit with
  | true => exact ⟨rfl, rfl, rfl, rfl, rfl, rfl, rfl, rfl, rfl, rfl, rfl, rfl⟩
  | false =>
    rw [endInstruction_poll]
    exact ⟨rfl, rfl, rfl, rfl, rfl, rfl, rfl, rfl, rfl, rfl, rfl, rfl⟩

theorem endInstruction_kept (inhibit : Bool) (M : State) (c : Cpu) :
    StateKept M (endInstruction inhibit (M.setCpu c)) := by
  cases inhibit with
  | true => exact (StateKept.refl M).setCpu _
  | false =>
    rw [endInstruction_poll]
    have h : StateKept M (M.setVideo (M.video.setNmi M.video.nmi.isAsserted.2)) :=
      ⟨BusKept.refl _ _, ⟨BusKept.refl _ _, id, id, id⟩, rfl, fun _ => rfl, id⟩
    exact h.setCpu _

theorem decimalMode_false (c : Cpu) : c.decimalMode = false := rfl

@[simp] theorem decimalCycle_eq (s : State) : decimalCycle s = s := rfl

theorem outcome_ready {s : State} (h : s.ready = true) : outcome s = .next s := by
  unfold outcome
  rw [ready_not_faulted h]
  rfl

theorem run_eq (p : Program) (ops : List Byte) (s : State) :
    p.run ops s = outcome (endInstruction p.inhibit (p.rest (s.mapCpu (latchAll p.operands ops)))) := by
  unfold Program.run Program.conclude
  rw [decimalCycle_eq, ite_self]

/-- A program whose cycles and operation leave the machine `M` with the CPU `c` answers a next state, and it is that of
R403 over them. -/
theorem run_ends {p : Program} {ops : List Byte} {s M : State} {c : Cpu}
    (h : p.rest (s.mapCpu (latchAll p.operands ops)) = M.setCpu c) (hM : M.ready = true) :
    ∃ t, p.run ops s = .next t ∧ Ends p.inhibit M c.regs t := by
  refine ⟨_, ?_, endInstruction_ends p.inhibit M c⟩
  rw [run_eq, h]
  exact outcome_ready ((endInstruction_kept _ M c).ready hM)

end Sys2Proof.Machine
end

