-- ==== Sys2Proof/Laws/Modes.lean ====
section
/-! SUPPORT. The addressing modes: that the cycle lists of Operands.lean make the accesses file 40 lists, as
Safety.lean writes them (`readPhase`, `addressPhase`, `rmwPhase`). -/

namespace Sys2Proof.Machine

/-- The program makes the read class's accesses of a mode, then `op` of the value read (R405). -/
def ReadsAs (p : Program) (ops : List Byte) (m : Mode) (w : Word) (op : Byte → Cpu → Cpu) : Prop :=
  ∀ s : State, ∃ c : Cpu, c.regs = s.cpu.regs ∧
    p.rest (s.mapCpu (latchAll p.operands ops)) = (readPhase m w s).2.setCpu (op (readPhase m w s).1 c)

/-- The program makes a mode's accesses and writes `r` of the registers at the effective address (R405). -/
def WritesAs (p : Program) (ops : List Byte) (m : Mode) (w : Word) (r : Cpu → Byte) : Prop :=
  ∀ s : State, ∃ c d : Cpu, c.regs = s.cpu.regs ∧ d.regs = s.cpu.regs ∧
    p.rest (s.mapCpu (latchAll p.operands ops)) =
      (busWrite (addressPhase m w s).1 (r c) (addressPhase m w s).2).setCpu d

/-- The program makes a mode's accesses and the three of the rmw class, then `op` of the byte read (R405). -/
def ModifiesAs (p : Program) (ops : List Byte) (m : Mode) (w : Word) (new : Byte → Cpu → Byte)
    (op : Byte → Cpu → Cpu) : Prop :=
  ∀ s : State, ∃ c d : Cpu, c.regs = s.cpu.regs ∧ d.regs = s.cpu.regs ∧
    p.rest (s.mapCpu (latchAll p.operands ops)) =
      (rmwPhase (addressPhase m w s).1 (new · d) (addressPhase m w s).2).setCpu
        (op (busRead (addressPhase m w s).1 (addressPhase m w s).2).1 c)

@[simp] theorem loByte_join (h l : Byte) : loByte (joinBytes h l) = l := by
  unfold loByte joinBytes
  apply BitVec.eq_of_getLsbD_eq
  intro i hi
  simp only [BitVec.getLsbD_setWidth, BitVec.getLsbD_append]
  simp [hi]

@[simp] theorem hiByte_join (h l : Byte) : hiByte (joinBytes h l) = h := by
  unfold hiByte joinBytes
  apply BitVec.eq_of_getLsbD_eq
  intro i hi
  simp only [BitVec.getLsbD_setWidth, BitVec.getLsbD_ushiftRight, BitVec.getLsbD_append]
  simp [hi]

@[simp] theorem join_hi_lo (w : Word) : joinBytes (hiByte w) (loByte w) = w := by
  unfold hiByte loByte joinBytes
  apply BitVec.eq_of_getLsbD_eq
  intro i hi
  simp only [BitVec.getLsbD_append, BitVec.getLsbD_setWidth, BitVec.getLsbD_ushiftRight]
  by_cases h : i < 8
  · simp [h]
  · have : 8 + (i - 8) = i := by omega
    have h2 : i - 8 < 8 := by omega
    simp [h, h2, this]

/-! ## The temporaries are no registers -/

@[simp] theorem Cpu.setLo_regs (c : Cpu) (v : Byte) : (c.setLo v).regs = c.regs := rfl
@[simp] theorem Cpu.setHi_regs (c : Cpu) (v : Byte) : (c.setHi v).regs = c.regs := rfl
@[simp] theorem Cpu.setPtr_regs (c : Cpu) (v : Byte) : (c.setPtr v).regs = c.regs := rfl
@[simp] theorem Cpu.setEa_regs (c : Cpu) (v : Word) : (c.setEa v).regs = c.regs := rfl
@[simp] theorem Cpu.setVal_regs (c : Cpu) (v : Byte) : (c.setVal v).regs = c.regs := rfl
@[simp] theorem Cpu.setOffset_regs (c : Cpu) (v : Byte) : (c.setOffset v).regs = c.regs := rfl
@[simp] theorem Cpu.setCrossed_regs (c : Cpu) (v : Bool) : (c.setCrossed v).regs = c.regs := rfl
@[simp] theorem Cpu.setPhase_regs (c : Cpu) (v : Phase) : (c.setPhase v).regs = c.regs := rfl
@[simp] theorem Cpu.setCycle_regs (c : Cpu) (v : Nat) : (c.setCycle v).regs = c.regs := rfl
@[simp] theorem Cpu.setOpcode_regs (c : Cpu) (v : Byte) : (c.setOpcode v).regs = c.regs := rfl
@[simp] theorem Cpu.setInhibit_regs (c : Cpu) (v : Bool) : (c.setInhibit v).regs = c.regs := rfl
@[simp] theorem Cpu.nextCycle_regs (c : Cpu) : c.nextCycle.regs = c.regs := rfl
@[simp] theorem Cpu.enter_regs (c : Cpu) (ph : Phase) : (c.enter ph).regs = c.regs := rfl
theorem regs_x {c d : Cpu} (h : c.regs = d.regs) : c.x = d.x := congrArg Regs.x h
theorem regs_y {c d : Cpu} (h : c.regs = d.regs) : c.y = d.y := congrArg Regs.y h

theorem onVal_setCpu (op : Byte → Cpu → Cpu) (M : State) (c : Cpu) : onVal op (M.setCpu c) = M.setCpu (op c.val c) := rfl

theorem plain_rest (ops : List (Byte → Cpu → Cpu)) (body : List Cycle) (f : State → State) (s : State) :
    (plain ops body f).rest s = f (runCycles body s) := rfl

/-! ## Read class -/

/-- The last access of the read class (R405). -/
theorem readEa_as (op : Byte → Cpu → Cpu) (M : State) (c : Cpu) {ea : Word} (he : c.ea = ea) :
    ∃ d : Cpu, d.regs = c.regs ∧ onVal op (runCycles [readEa] (M.setCpu c)) =
      (busRead ea M).2.setCpu (op (busRead ea M).1 d) := by
  subst he
  unfold readEa
  rw [runCycles_read, runCycles_nil, onVal_setCpu, Cpu.nextCycle_val, Cpu.setVal_val]
  exact ⟨_, by simp, rfl⟩

/-- Adding an index that does not carry leaves the page (R432). -/
theorem uncarried_eq (h l x : Byte) (hc : crossesPage (joinBytes h l) x = false) :
    joinBytes h (l + x) = joinBytes h l + zeroPage x := by
  unfold crossesPage at hc
  rw [loByte_join, decide_eq_false_iff_not] at hc
  apply BitVec.eq_of_toNat_eq
  unfold joinBytes zeroPage
  rw [BitVec.toNat_append, BitVec.toNat_add, BitVec.toNat_add, BitVec.toNat_append, BitVec.toNat_setWidth]
  have h1 := h.isLt
  have h2 := l.isLt
  have h3 := x.isLt
  rw [← Nat.shiftLeft_add_eq_or_of_lt (by omega), ← Nat.shiftLeft_add_eq_or_of_lt (by omega), Nat.shiftLeft_eq]
  omega

/-- The two shapes of the indexed read class (R432, R441). -/
theorem indexRead_as (op : Byte → Cpu → Cpu) (idx : Cpu → Byte) (M : State) (c : Cpu) {w : Word} {x : Byte}
    (hw : joinBytes c.hi c.lo = w) (hx : idx c = x) :
    ∃ d : Cpu, d.regs = c.regs ∧ onVal op (runCycles [indexRead idx, readEa] (M.setCpu c)) =
      (readIndexed w x M).2.setCpu (op (readIndexed w x M).1 d) := by
  subst hw hx
  unfold readIndexed
  have hp : crossesPage (joinBytes c.hi c.lo) (idx c) = carries c.lo (idx c) := by
    unfold crossesPage carries
    rw [loByte_join]
  cases hc : carries c.lo (idx c) with
  | true =>
    rw [if_pos (hp.trans hc), runCycles_indexRead_carry _ _ _ _ hc]
    obtain ⟨d, hd, h⟩ := readEa_as op (busRead (uncarried idx c) M).2
      ((((c.setVal (busRead (uncarried idx c) M).1).setEa (indexed idx c)).setCrossed (carries c.lo (idx c))).nextCycle)
      rfl
    refine ⟨d, hd.trans (by simp), ?_⟩
    rw [h, Cpu.nextCycle_ea, Cpu.setCrossed_ea, Cpu.setEa_ea]
    unfold samePage uncarried indexed
    rw [loByte_join, hiByte_join]
  | false =>
    have hn := hp.trans hc
    rw [if_neg (by rw [hn]; exact Bool.false_ne_true), runCycles_indexRead_done _ _ _ _ hc, onVal_setCpu,
      Cpu.nextCycle_val, Cpu.setCrossed_val, Cpu.setEa_val, Cpu.setVal_val]
    unfold uncarried
    rw [uncarried_eq _ _ _ hn]
    exact ⟨_, by simp, rfl⟩

/-! ## The cycles that form an address -/

theorem zpIndex_as (idx : Cpu → Byte) (cs : List Cycle) (M : State) (c : Cpu) {b x : Byte} (hb : c.lo = b)
    (hx : idx c = x) : ∃ d : Cpu, d.regs = c.regs ∧ d.ea = zeroPage (b + x) ∧
      runCycles (zpIndex idx :: cs) (M.setCpu c) = runCycles cs ((busRead (zeroPage b) M).2.setCpu d) := by
  subst hb hx
  unfold zpIndex
  rw [runCycles_read]
  exact ⟨_, by simp, by simp, rfl⟩

theorem indexAlways_as (idx : Cpu → Byte) (cs : List Cycle) (M : State) (c : Cpu) {w : Word} {x : Byte}
    (hw : joinBytes c.hi c.lo = w) (hx : idx c = x) :
    ∃ d : Cpu, d.regs = c.regs ∧ d.ea = w + zeroPage x ∧
      runCycles (indexAlways idx :: cs) (M.setCpu c) = runCycles cs ((busRead (samePage w x) M).2.setCpu d) := by
  subst hw hx
  unfold indexAlways samePage
  rw [runCycles_read, loByte_join, hiByte_join]
  exact ⟨_, by simp, by simp [indexed], rfl⟩

theorem izxPointer_as (cs : List Cycle) (M : State) (c : Cpu) {b x : Byte} (hb : c.lo = b) (hx : c.x = x) :
    ∃ d : Cpu, d.regs = c.regs ∧ d.ea = (readPointer (b + x) (busRead (zeroPage b) M).2).1 ∧
      runCycles (izxPointer ++ cs) (M.setCpu c) =
        runCycles cs ((readPointer (b + x) (busRead (zeroPage b) M).2).2.setCpu d) := by
  subst hb hx
  unfold izxPointer readPointer
  rw [List.cons_append, List.cons_append, List.cons_append, List.nil_append, runCycles_read, runCycles_read,
    runCycles_read]
  simp only [Cpu.nextCycle_ptr, Cpu.setPtr_ptr, Cpu.setLo_ptr, Cpu.nextCycle_lo, Cpu.setLo_lo]
  exact ⟨_, by simp, by simp, rfl⟩

theorem izyPointer_as (cs : List Cycle) (M : State) (c : Cpu) {b : Byte} (hb : c.ptr = b) :
    ∃ d : Cpu, d.regs = c.regs ∧ joinBytes d.hi d.lo = (readPointer b M).1 ∧
      runCycles (izyPointer ++ cs) (M.setCpu c) = runCycles cs ((readPointer b M).2.setCpu d) := by
  subst hb
  unfold izyPointer readPointer
  rw [List.cons_append, List.cons_append, List.nil_append, runCycles_read, runCycles_read]
  simp only [Cpu.nextCycle_ptr, Cpu.setLo_ptr]
  exact ⟨_, by simp, by simp, rfl⟩

/-! ## The last accesses of the write and rmw classes -/

theorem writeEa_as (r : Cpu → Byte) (M : State) (c : Cpu) {ea : Word} (he : c.ea = ea) :
    ∃ d : Cpu, d.regs = c.regs ∧ runCycles [writeEa r] (M.setCpu c) = (busWrite ea (r c) M).setCpu d := by
  subst he
  unfold writeEa
  rw [runCycles_write, runCycles_nil]
  exact ⟨_, by simp, rfl⟩

theorem rmwEa_as (new : Byte → Cpu → Byte) (op : Byte → Cpu → Cpu) (M : State) (c : Cpu) {ea : Word} (he : c.ea = ea) :
    ∃ d e : Cpu, d.regs = c.regs ∧ e.regs = c.regs ∧ onVal op (runCycles (rmwEa new) (M.setCpu c)) =
      (rmwPhase ea (new · e) M).setCpu (op (busRead ea M).1 d) := by
  subst he
  unfold rmwEa readEa dummyWriteEa writeEa rmwPhase
  rw [runCycles_read, runCycles_write, runCycles_write, runCycles_nil, onVal_setCpu]
  simp only [Cpu.nextCycle_ea, Cpu.setVal_ea, Cpu.nextCycle_val, Cpu.setVal_val, id]
  refine ⟨_, _, ?_, ?_, rfl⟩ <;> simp

/-! ## The three classes in each mode -/

theorem immRead_as (op : Byte → Cpu → Cpu) (b : Byte) : ReadsAs (immRead op) [b] .imm (joinBytes 0 b) op := by
  intro s
  simp only [readPhase, loByte_join]
  exact ⟨latchImm b s.cpu, rfl, rfl⟩

theorem zpRead_as (op : Byte → Cpu → Cpu) (b : Byte) :
    ReadsAs (zpRead op) [b] .zp (joinBytes 0 b) op := by
  intro s
  simp only [readPhase, addressPhase, loByte_join]
  obtain ⟨e, hr, h'⟩ := readEa_as op s (latchZp b s.cpu) (ea := zeroPage b) rfl
  refine ⟨e, hr.trans rfl, ?_⟩
  unfold zpRead
  rw [plain_rest]
  show onVal op (runCycles [readEa] (s.setCpu (latchZp b s.cpu))) = _
  exact h'

theorem zpWrite_as (r : Cpu → Byte) (b : Byte) :
    WritesAs (zpWrite r) [b] .zp (joinBytes 0 b) r := by
  intro s
  simp only [addressPhase, loByte_join]
  obtain ⟨e, hr, h'⟩ := writeEa_as r s (latchZp b s.cpu) (ea := zeroPage b) rfl
  refine ⟨(latchZp b s.cpu), e, rfl, hr.trans rfl, ?_⟩
  unfold zpWrite
  rw [plain_rest]
  show runCycles [writeEa r] (s.setCpu (latchZp b s.cpu)) = _
  exact h'

theorem zpRmw_as (new : Byte → Cpu → Byte) (op : Byte → Cpu → Cpu) (b : Byte) :
    ModifiesAs (zpRmw new op) [b] .zp (joinBytes 0 b) new op := by
  intro s
  simp only [addressPhase, loByte_join]
  obtain ⟨d', e, hr, hr', h'⟩ := rmwEa_as new op s (latchZp b s.cpu) (ea := zeroPage b) rfl
  refine ⟨d', e, hr.trans rfl, hr'.trans rfl, ?_⟩
  unfold zpRmw
  rw [plain_rest]
  show onVal op (runCycles (rmwEa new) (s.setCpu (latchZp b s.cpu))) = _
  exact h'

theorem zpxRead_as (op : Byte → Cpu → Cpu) (b : Byte) :
    ReadsAs (zpxRead op) [b] .zpx (joinBytes 0 b) op := by
  intro s
  simp only [readPhase, addressPhase, loByte_join]
  obtain ⟨d, hd, he, h⟩ := zpIndex_as Cpu.x [readEa] s (latchLo b s.cpu) (b := b) (x := s.cpu.x) rfl rfl
  obtain ⟨e, hr, h'⟩ := readEa_as op (busRead (zeroPage b) s).2 d he
  refine ⟨e, hr.trans hd, ?_⟩
  unfold zpxRead
  rw [plain_rest]
  show onVal op (runCycles (zpIndex Cpu.x :: [readEa]) (s.setCpu (latchLo b s.cpu))) = _
  rw [h, h']

theorem zpxWrite_as (r : Cpu → Byte) (b : Byte) :
    WritesAs (zpxWrite r) [b] .zpx (joinBytes 0 b) r := by
  intro s
  simp only [addressPhase, loByte_join]
  obtain ⟨d, hd, he, h⟩ := zpIndex_as Cpu.x [writeEa r] s (latchLo b s.cpu) (b := b) (x := s.cpu.x) rfl rfl
  obtain ⟨e, hr, h'⟩ := writeEa_as r (busRead (zeroPage b) s).2 d he
  refine ⟨d, e, hd, hr.trans hd, ?_⟩
  unfold zpxWrite
  rw [plain_rest]
  show runCycles (zpIndex Cpu.x :: [writeEa r]) (s.setCpu (latchLo b s.cpu)) = _
  rw [h, h']

theorem zpxRmw_as (new : Byte → Cpu → Byte) (op : Byte → Cpu → Cpu) (b : Byte) :
    ModifiesAs (zpxRmw new op) [b] .zpx (joinBytes 0 b) new op := by
  intro s
  simp only [addressPhase, loByte_join]
  obtain ⟨d, hd, he, h⟩ := zpIndex_as Cpu.x (rmwEa new) s (latchLo b s.cpu) (b := b) (x := s.cpu.x) rfl rfl
  obtain ⟨d', e, hr, hr', h'⟩ := rmwEa_as new op (busRead (zeroPage b) s).2 d he
  refine ⟨d', e, hr.trans hd, hr'.trans hd, ?_⟩
  unfold zpxRmw
  rw [plain_rest]
  show onVal op (runCycles (zpIndex Cpu.x :: (rmwEa new)) (s.setCpu (latchLo b s.cpu))) = _
  rw [h, h']

theorem zpyRead_as (op : Byte → Cpu → Cpu) (b : Byte) :
    ReadsAs (zpyRead op) [b] .zpy (joinBytes 0 b) op := by
  intro s
  simp only [readPhase, addressPhase, loByte_join]
  obtain ⟨d, hd, he, h⟩ := zpIndex_as Cpu.y [readEa] s (latchLo b s.cpu) (b := b) (x := s.cpu.y) rfl rfl
  obtain ⟨e, hr, h'⟩ := readEa_as op (busRead (zeroPage b) s).2 d he
  refine ⟨e, hr.trans hd, ?_⟩
  unfold zpyRead
  rw [plain_rest]
  show onVal op (runCycles (zpIndex Cpu.y :: [readEa]) (s.setCpu (latchLo b s.cpu))) = _
  rw [h, h']

theorem zpyWrite_as (r : Cpu → Byte) (b : Byte) :
    WritesAs (zpyWrite r) [b] .zpy (joinBytes 0 b) r := by
  intro s
  simp only [addressPhase, loByte_join]
  obtain ⟨d, hd, he, h⟩ := zpIndex_as Cpu.y [writeEa r] s (latchLo b s.cpu) (b := b) (x := s.cpu.y) rfl rfl
  obtain ⟨e, hr, h'⟩ := writeEa_as r (busRead (zeroPage b) s).2 d he
  refine ⟨d, e, hd, hr.trans hd, ?_⟩
  unfold zpyWrite
  rw [plain_rest]
  show runCycles (zpIndex Cpu.y :: [writeEa r]) (s.setCpu (latchLo b s.cpu)) = _
  rw [h, h']

theorem absRead_as (op : Byte → Cpu → Cpu) (w : Word) :
    ReadsAs (absRead op) [loByte w, hiByte w] .abs w op := by
  intro s
  simp only [readPhase, addressPhase]
  obtain ⟨e, hr, h'⟩ := readEa_as op s (latchHi (hiByte w) (latchLo (loByte w) s.cpu)) (ea := w) (join_hi_lo w)
  refine ⟨e, hr.trans rfl, ?_⟩
  unfold absRead
  rw [plain_rest]
  show onVal op (runCycles [readEa] (s.setCpu (latchHi (hiByte w) (latchLo (loByte w) s.cpu)))) = _
  exact h'

theorem absWrite_as (r : Cpu → Byte) (w : Word) :
    WritesAs (absWrite r) [loByte w, hiByte w] .abs w r := by
  intro s
  simp only [addressPhase]
  obtain ⟨e, hr, h'⟩ := writeEa_as r s (latchHi (hiByte w) (latchLo (loByte w) s.cpu)) (ea := w) (join_hi_lo w)
  refine ⟨(latchHi (hiByte w) (latchLo (loByte w) s.cpu)), e, rfl, hr.trans rfl, ?_⟩
  unfold absWrite
  rw [plain_rest]
  show runCycles [writeEa r] (s.setCpu (latchHi (hiByte w) (latchLo (loByte w) s.cpu))) = _
  exact h'

theorem absRmw_as (new : Byte → Cpu → Byte) (op : Byte → Cpu → Cpu) (w : Word) :
    ModifiesAs (absRmw new op) [loByte w, hiByte w] .abs w new op := by
  intro s
  simp only [addressPhase]
  obtain ⟨d', e, hr, hr', h'⟩ := rmwEa_as new op s (latchHi (hiByte w) (latchLo (loByte w) s.cpu)) (ea := w) (join_hi_lo w)
  refine ⟨d', e, hr.trans rfl, hr'.trans rfl, ?_⟩
  unfold absRmw
  rw [plain_rest]
  show onVal op (runCycles (rmwEa new) (s.setCpu (latchHi (hiByte w) (latchLo (loByte w) s.cpu)))) = _
  exact h'

theorem absxRead_as (op : Byte → Cpu → Cpu) (w : Word) :
    ReadsAs (absxRead op) [loByte w, hiByte w] .absx w op := by
  intro s
  simp only [readPhase]
  obtain ⟨e, hr, h'⟩ := indexRead_as op Cpu.x s (latchHi (hiByte w) (latchLo (loByte w) s.cpu)) (w := w) (x := s.cpu.x) (join_hi_lo w) rfl
  refine ⟨e, hr.trans rfl, ?_⟩
  unfold absxRead
  rw [plain_rest]
  show onVal op (runCycles [indexRead Cpu.x, readEa] (s.setCpu (latchHi (hiByte w) (latchLo (loByte w) s.cpu)))) = _
  exact h'

theorem absxWrite_as (r : Cpu → Byte) (w : Word) :
    WritesAs (absxWrite r) [loByte w, hiByte w] .absx w r := by
  intro s
  simp only [addressPhase]
  obtain ⟨d, hd, he, h⟩ := indexAlways_as Cpu.x [writeEa r] s (latchHi (hiByte w) (latchLo (loByte w) s.cpu))
    (w := w) (x := s.cpu.x) (join_hi_lo w) rfl
  obtain ⟨e, hr, h'⟩ := writeEa_as r (busRead (samePage w s.cpu.x) s).2 d he
  refine ⟨d, e, hd, hr.trans hd, ?_⟩
  unfold absxWrite
  rw [plain_rest]
  show runCycles (indexAlways Cpu.x :: [writeEa r]) (s.setCpu (latchHi (hiByte w) (latchLo (loByte w) s.cpu))) = _
  rw [h, h']

theorem absxRmw_as (new : Byte → Cpu → Byte) (op : Byte → Cpu → Cpu) (w : Word) :
    ModifiesAs (absxRmw new op) [loByte w, hiByte w] .absx w new op := by
  intro s
  simp only [addressPhase]
  obtain ⟨d, hd, he, h⟩ := indexAlways_as Cpu.x (rmwEa new) s (latchHi (hiByte w) (latchLo (loByte w) s.cpu))
    (w := w) (x := s.cpu.x) (join_hi_lo w) rfl
  obtain ⟨d', e, hr, hr', h'⟩ := rmwEa_as new op (busRead (samePage w s.cpu.x) s).2 d he
  refine ⟨d', e, hr.trans hd, hr'.trans hd, ?_⟩
  unfold absxRmw
  rw [plain_rest]
  show onVal op (runCycles (indexAlways Cpu.x :: (rmwEa new)) (s.setCpu (latchHi (hiByte w) (latchLo (loByte w) s.cpu)))) = _
  rw [h, h']

theorem absyRead_as (op : Byte → Cpu → Cpu) (w : Word) :
    ReadsAs (absyRead op) [loByte w, hiByte w] .absy w op := by
  intro s
  simp only [readPhase]
  obtain ⟨e, hr, h'⟩ := indexRead_as op Cpu.y s (latchHi (hiByte w) (latchLo (loByte w) s.cpu)) (w := w) (x := s.cpu.y) (join_hi_lo w) rfl
  refine ⟨e, hr.trans rfl, ?_⟩
  unfold absyRead
  rw [plain_rest]
  show onVal op (runCycles [indexRead Cpu.y, readEa] (s.setCpu (latchHi (hiByte w) (latchLo (loByte w) s.cpu)))) = _
  exact h'

theorem absyWrite_as (r : Cpu → Byte) (w : Word) :
    WritesAs (absyWrite r) [loByte w, hiByte w] .absy w r := by
  intro s
  simp only [addressPhase]
  obtain ⟨d, hd, he, h⟩ := indexAlways_as Cpu.y [writeEa r] s (latchHi (hiByte w) (latchLo (loByte w) s.cpu))
    (w := w) (x := s.cpu.y) (join_hi_lo w) rfl
  obtain ⟨e, hr, h'⟩ := writeEa_as r (busRead (samePage w s.cpu.y) s).2 d he
  refine ⟨d, e, hd, hr.trans hd, ?_⟩
  unfold absyWrite
  rw [plain_rest]
  show runCycles (indexAlways Cpu.y :: [writeEa r]) (s.setCpu (latchHi (hiByte w) (latchLo (loByte w) s.cpu))) = _
  rw [h, h']

theorem absyRmw_as (new : Byte → Cpu → Byte) (op : Byte → Cpu → Cpu) (w : Word) :
    ModifiesAs (absyRmw new op) [loByte w, hiByte w] .absy w new op := by
  intro s
  simp only [addressPhase]
  obtain ⟨d, hd, he, h⟩ := indexAlways_as Cpu.y (rmwEa new) s (latchHi (hiByte w) (latchLo (loByte w) s.cpu))
    (w := w) (x := s.cpu.y) (join_hi_lo w) rfl
  obtain ⟨d', e, hr, hr', h'⟩ := rmwEa_as new op (busRead (samePage w s.cpu.y) s).2 d he
  refine ⟨d', e, hr.trans hd, hr'.trans hd, ?_⟩
  unfold absyRmw
  rw [plain_rest]
  show onVal op (runCycles (indexAlways Cpu.y :: (rmwEa new)) (s.setCpu (latchHi (hiByte w) (latchLo (loByte w) s.cpu)))) = _
  rw [h, h']

theorem izxRead_as (op : Byte → Cpu → Cpu) (b : Byte) :
    ReadsAs (izxRead op) [b] .izx (joinBytes 0 b) op := by
  intro s
  simp only [readPhase, addressPhase, loByte_join]
  obtain ⟨d, hd, he, h⟩ := izxPointer_as [readEa] s (latchLo b s.cpu) (b := b) (x := s.cpu.x) rfl rfl
  obtain ⟨e, hr, h'⟩ := readEa_as op (readPointer (b + s.cpu.x) (busRead (zeroPage b) s).2).2 d he
  refine ⟨e, hr.trans hd, ?_⟩
  unfold izxRead
  rw [plain_rest]
  show onVal op (runCycles (izxPointer ++ [readEa]) (s.setCpu (latchLo b s.cpu))) = _
  rw [h, h']

theorem izxWrite_as (r : Cpu → Byte) (b : Byte) :
    WritesAs (izxWrite r) [b] .izx (joinBytes 0 b) r := by
  intro s
  simp only [addressPhase, loByte_join]
  obtain ⟨d, hd, he, h⟩ := izxPointer_as [writeEa r] s (latchLo b s.cpu) (b := b) (x := s.cpu.x) rfl rfl
  obtain ⟨e, hr, h'⟩ := writeEa_as r (readPointer (b + s.cpu.x) (busRead (zeroPage b) s).2).2 d he
  refine ⟨d, e, hd, hr.trans hd, ?_⟩
  unfold izxWrite
  rw [plain_rest]
  show runCycles (izxPointer ++ [writeEa r]) (s.setCpu (latchLo b s.cpu)) = _
  rw [h, h']

theorem izxRmw_as (new : Byte → Cpu → Byte) (op : Byte → Cpu → Cpu) (b : Byte) :
    ModifiesAs (izxRmw new op) [b] .izx (joinBytes 0 b) new op := by
  intro s
  simp only [addressPhase, loByte_join]
  obtain ⟨d, hd, he, h⟩ := izxPointer_as (rmwEa new) s (latchLo b s.cpu) (b := b) (x := s.cpu.x) rfl rfl
  obtain ⟨d', e, hr, hr', h'⟩ := rmwEa_as new op (readPointer (b + s.cpu.x) (busRead (zeroPage b) s).2).2 d he
  refine ⟨d', e, hr.trans hd, hr'.trans hd, ?_⟩
  unfold izxRmw
  rw [plain_rest]
  show onVal op (runCycles (izxPointer ++ (rmwEa new)) (s.setCpu (latchLo b s.cpu))) = _
  rw [h, h']

theorem izyRead_as (op : Byte → Cpu → Cpu) (b : Byte) :
    ReadsAs (izyRead op) [b] .izy (joinBytes 0 b) op := by
  intro s
  simp only [readPhase, loByte_join]
  obtain ⟨d, hd, hj, h⟩ := izyPointer_as [indexRead Cpu.y, readEa] s (latchPtr b s.cpu) (b := b) rfl
  obtain ⟨e, hr, h'⟩ := indexRead_as op Cpu.y (readPointer b s).2 d hj (x := s.cpu.y) (regs_y hd)
  refine ⟨e, hr.trans hd, ?_⟩
  unfold izyRead
  rw [plain_rest]
  show onVal op (runCycles (izyPointer ++ [indexRead Cpu.y, readEa]) (s.setCpu (latchPtr b s.cpu))) = _
  rw [h, h']

theorem izyWrite_as (r : Cpu → Byte) (b : Byte) :
    WritesAs (izyWrite r) [b] .izy (joinBytes 0 b) r := by
  intro s
  simp only [addressPhase, loByte_join]
  obtain ⟨d, hd, hj, h⟩ := izyPointer_as (indexAlways Cpu.y :: [writeEa r]) s (latchPtr b s.cpu) (b := b) rfl
  obtain ⟨d2, hd2, he, h2⟩ := indexAlways_as Cpu.y [writeEa r] (readPointer b s).2 d hj (x := s.cpu.y) (regs_y hd)
  obtain ⟨e, hr, h'⟩ := writeEa_as r (busRead (samePage (readPointer b s).1 s.cpu.y) (readPointer b s).2).2 d2 he
  refine ⟨d2, e, (hd2.trans hd), hr.trans (hd2.trans hd), ?_⟩
  unfold izyWrite
  rw [plain_rest]
  show runCycles (izyPointer ++ (indexAlways Cpu.y :: [writeEa r])) (s.setCpu (latchPtr b s.cpu)) = _
  rw [h, h2, h']

theorem izyRmw_as (new : Byte → Cpu → Byte) (op : Byte → Cpu → Cpu) (b : Byte) :
    ModifiesAs (izyRmw new op) [b] .izy (joinBytes 0 b) new op := by
  intro s
  simp only [addressPhase, loByte_join]
  obtain ⟨d, hd, hj, h⟩ := izyPointer_as (indexAlways Cpu.y :: (rmwEa new)) s (latchPtr b s.cpu) (b := b) rfl
  obtain ⟨d2, hd2, he, h2⟩ := indexAlways_as Cpu.y (rmwEa new) (readPointer b s).2 d hj (x := s.cpu.y) (regs_y hd)
  obtain ⟨d', e, hr, hr', h'⟩ := rmwEa_as new op (busRead (samePage (readPointer b s).1 s.cpu.y) (readPointer b s).2).2 d2 he
  refine ⟨d', e, hr.trans (hd2.trans hd), hr'.trans (hd2.trans hd), ?_⟩
  unfold izyRmw
  rw [plain_rest]
  show onVal op (runCycles (izyPointer ++ (indexAlways Cpu.y :: (rmwEa new))) (s.setCpu (latchPtr b s.cpu))) = _
  rw [h, h2, h']

end Sys2Proof.Machine
end

