-- ==== Sys2Proof/Laws/Classes.lean ====
section
/-! SUPPORT. The access classes (R405): an instruction whose program makes a class's accesses answers a next state
of that class. -/

namespace Sys2Proof.Machine

/-! ## What the accesses of a mode keep -/

/-- What `Ends` says of the parts a program does not see. -/
theorem Ends.kept {inh : Bool} {M t : State} {g : Regs} (h : Ends inh M g t) : StateKept M t := by
  obtain ⟨-, -, -, -, hd, hb, hi, -, hp, hv, hn, -⟩ := h
  have hbus : BusKept M.devices M.video.bus t.video.bus := by rw [hv]; exact BusKept.refl _ _
  refine ⟨by rw [hb]; exact BusKept.refl _ _, ⟨hbus, ?_, ?_, ?_⟩, hi, fun _ => by rw [hd], fun h => by rw [hd]; exact h⟩
  · rw [hp]; exact id
  · rw [hp]; exact id
  · unfold Video.nmiWf
    rw [hp, hn]
    unfold pollNmi
    cases inh <;> exact id

theorem Ends.devices {inh : Bool} {M t : State} {g : Regs} (h : Ends inh M g t) : t.devices = M.devices := h.2.2.2.2.1
theorem Ends.diagnostics {inh : Bool} {M t : State} {g : Regs} (h : Ends inh M g t) : t.diagnostics = M.diagnostics :=
  h.2.2.2.2.2.2.2.2.2.2.2

theorem Ends.readsOnly {inh : Bool} {s M t : State} {g : Regs} (h : Ends inh M g t) (k : ReadsOnly s M) :
    ReadsOnly s t := k.trans (readsOnly_of h.kept h.devices h.diagnostics)

theorem readPointer_readsOnly (b : Byte) (s : State) : ReadsOnly s (readPointer b s).2 :=
  (busRead_readsOnly _ s).trans (busRead_readsOnly _ _)

theorem readPointer_kept (b : Byte) (s : State) : StateKept s (readPointer b s).2 :=
  (busRead_kept _ s).trans (busRead_kept _ _)

theorem addressPhase_readsOnly (m : Mode) (w : Word) (s : State) : ReadsOnly s (addressPhase m w s).2 := by
  unfold addressPhase
  cases m <;> dsimp only
  case zp | abs => exact ReadsOnly.refl s
  case zpx | zpy | absx | absy => exact busRead_readsOnly _ s
  case izx => exact (busRead_readsOnly _ s).trans (readPointer_readsOnly _ _)
  case izy => exact (readPointer_readsOnly _ s).trans (busRead_readsOnly _ _)
  all_goals exact ReadsOnly.refl s

theorem addressPhase_kept (m : Mode) (w : Word) (s : State) : StateKept s (addressPhase m w s).2 := by
  unfold addressPhase
  cases m <;> dsimp only
  case zp | abs => exact StateKept.refl s
  case zpx | zpy | absx | absy => exact busRead_kept _ s
  case izx => exact (busRead_kept _ s).trans (readPointer_kept _ _)
  case izy => exact (readPointer_kept _ s).trans (busRead_kept _ _)
  all_goals exact StateKept.refl s

theorem readIndexed_readsOnly (w : Word) (x : Byte) (s : State) : ReadsOnly s (readIndexed w x s).2 := by
  unfold readIndexed
  split
  · exact (busRead_readsOnly _ s).trans (busRead_readsOnly _ _)
  · exact busRead_readsOnly _ s

theorem readIndexed_kept (w : Word) (x : Byte) (s : State) : StateKept s (readIndexed w x s).2 := by
  unfold readIndexed
  split
  · exact (busRead_kept _ s).trans (busRead_kept _ _)
  · exact busRead_kept _ s

theorem readPhase_readsOnly (m : Mode) (w : Word) (s : State) : ReadsOnly s (readPhase m w s).2 := by
  unfold readPhase
  cases m <;> dsimp only
  case imm => exact ReadsOnly.refl s
  case absx | absy => exact readIndexed_readsOnly _ _ s
  case izy => exact (readPointer_readsOnly _ s).trans (readIndexed_readsOnly _ _ _)
  all_goals exact (addressPhase_readsOnly _ _ s).trans (busRead_readsOnly _ _)

theorem readPhase_kept (m : Mode) (w : Word) (s : State) : StateKept s (readPhase m w s).2 := by
  unfold readPhase
  cases m <;> dsimp only
  case imm => exact StateKept.refl s
  case absx | absy => exact readIndexed_kept _ _ s
  case izy => exact (readPointer_kept _ s).trans (readIndexed_kept _ _ _)
  all_goals exact (addressPhase_kept _ _ s).trans (busRead_kept _ _)

/-! ## Completion, class by class -/

/-- Every arm of `exec` runs the program its opcode selects, over its operand bytes. -/
theorem exec_eq_run (i : Instr) (s : State) : exec i s = (programOf i).run i.operandBytes s := by
  cases i <;> rfl

theorem ReadsAs.decimally {p : Program} {ops : List Byte} {m : Mode} {w : Word} {op : Byte → Cpu → Cpu}
    (h : ReadsAs p ops m w op) : ReadsAs p.decimally ops m w op := h

theorem ModifiesAs.decimally {p : Program} {ops : List Byte} {m : Mode} {w : Word} {new : Byte → Cpu → Byte}
    {op : Byte → Cpu → Cpu} (h : ModifiesAs p ops m w new op) : ModifiesAs p.decimally ops m w new op := h

/-- The registers, one by one. -/
theorem regs_ext {c d : Cpu} (h : c.regs = d.regs) :
    c.a = d.a ∧ c.x = d.x ∧ c.y = d.y ∧ c.s = d.s ∧ c.p = d.p ∧ c.pc = d.pc :=
  ⟨congrArg Regs.a h, congrArg Regs.x h, congrArg Regs.y h, congrArg Regs.s h, congrArg Regs.p h, congrArg Regs.pc h⟩

/-- An instruction whose program comes to the machine `M` with the CPU `c` answers the end of R403 over them. -/
theorem exec_ends {i : Instr} {s M : State} {c : Cpu}
    (h : (programOf i).rest (s.mapCpu (latchAll (programOf i).operands i.operandBytes)) = M.setCpu c)
    (hM : M.ready = true) : ∃ t, exec i s = .next t ∧ Ends (programOf i).inhibit M c.regs t := by
  obtain ⟨t, ht, he⟩ := run_ends h hM
  exact ⟨t, (exec_eq_run i s).trans ht, he⟩

theorem read_completes {i : Instr} {w : Word} {s : State} {op : Byte → Cpu → Cpu}
    {g : Byte → Regs} (hs : s.ready = true) (hp : ReadsAs (programOf i) i.operandBytes i.mode w op) (hw : operandWord i = w) (hi : (programOf i).inhibit = false)
    (hg : ∀ v c, c.regs = s.cpu.regs → (op v c).regs = g v) : ∃ t, exec i s = .next t ∧ ReadEnds i s g t := by
  subst hw
  obtain ⟨c, hc, h⟩ := hp s
  obtain ⟨t, ht, he⟩ := run_ends h ((readPhase_kept _ _ s).ready hs)
  rw [hi, hg _ _ hc] at he
  exact ⟨t, (exec_eq_run i s).trans ht, he, he.readsOnly (readPhase_readsOnly _ _ s)⟩

theorem implied_completes {i : Instr} {s : State} {op : Cpu → Cpu} {inh : Bool} {g : Regs}
    (hs : s.ready = true) (ho : i.operandBytes = []) (hr : ∀ s : State, (programOf i).rest (s.mapCpu (latchAll (programOf i).operands [])) =
      (runCycles [dummyReadPc] (s.setCpu s.cpu)).mapCpu op) (hi : (programOf i).inhibit = inh)
    (hg : ∀ c, c.regs = s.cpu.regs → (op c).regs = g) : ∃ t, exec i s = .next t ∧ ImpliedEnds inh s g t := by
  have h := hr s
  rw [← ho] at h
  unfold dummyReadPc dummyRead at h
  rw [runCycles_read, runCycles_nil, mapCpu_setCpu] at h
  obtain ⟨t, ht, he⟩ := run_ends h (busRead_ready hs)
  rw [hi, hg _ (by simp)] at he
  exact ⟨t, (exec_eq_run i s).trans ht, he, he.readsOnly (busRead_readsOnly _ s)⟩

theorem cell_devices {s t : State} (h : t.devices = s.devices) (dev idx : Nat) : t.cell dev idx = s.cell dev idx := by
  rw [State.cell_eq, State.cell_eq, h]

theorem write_completes {i : Instr} {w : Word} {s : State} {r : Cpu → Byte} {v : Byte}
    (hs : s.ready = true) (hp : WritesAs (programOf i) i.operandBytes i.mode w r) (hw : operandWord i = w)
    (hi : (programOf i).inhibit = false) (hr : ∀ c, c.regs = s.cpu.regs → r c = v) :
    ∃ t, exec i s = .next t ∧ StoreEnds i s v t := by
  subst hw
  obtain ⟨c, d, hc, hd, h⟩ := hp s
  rw [hr c hc] at h
  have hq := (addressPhase_kept i.mode (operandWord i) s).ready hs
  obtain ⟨t, ht, he⟩ := run_ends h (busWrite_ready hq)
  rw [hi, hd] at he
  have hro := addressPhase_readsOnly i.mode (operandWord i) s
  have hk := (addressPhase_kept i.mode (operandWord i) s).trans
    ((busWrite_kept (addressPhase i.mode (operandWord i) s).1 v _).trans he.kept)
  have hcell : ∀ dev idx, t.cell dev idx = _ := fun dev idx => (cell_devices he.devices dev idx).trans
    (busWrite_cell (addressPhase i.mode (operandWord i) s).1 v (addressPhase i.mode (operandWord i) s).2 dev idx hq)
  refine ⟨t, (exec_eq_run i s).trans ht, he, fun dev idx hn => ?_, fun dev idx hn => ?_, hk.sameWiring, ?_⟩
  · rw [hcell, if_neg (by simpa [eq_comm] using hn)]
    exact cell_devices hro.1 dev idx
  · rw [hcell, if_pos hn]
  · rw [he.diagnostics, busWrite_diagnostics]
    exact hro.2.2.2

theorem rmw_completes {i : Instr} {w : Word} {s : State} {new : Byte → Cpu → Byte}
    {op : Byte → Cpu → Cpu} {f : Byte → Byte} {g : Byte → Regs} (hs : s.ready = true) (hp : ModifiesAs (programOf i) i.operandBytes i.mode w new op) (hw : operandWord i = w) (hi : (programOf i).inhibit = false)
    (hn : ∀ v c, c.regs = s.cpu.regs → new v c = f v) (hg : ∀ v c, c.regs = s.cpu.regs → (op v c).regs = g v) :
    ∃ t, exec i s = .next t ∧ RmwEnds i s f g t := by
  subst hw
  obtain ⟨c, d, hc, hd, h⟩ := hp s
  rw [show (new · d) = f from funext fun v => hn v d hd] at h
  have hq := (addressPhase_kept i.mode (operandWord i) s).ready hs
  have hr := busRead_ready (a := (addressPhase i.mode (operandWord i) s).1) hq
  have hu := busWrite_ready (a := (addressPhase i.mode (operandWord i) s).1)
    (v := (busRead (addressPhase i.mode (operandWord i) s).1 (addressPhase i.mode (operandWord i) s).2).1) hr
  have hM : (rmwPhase (addressPhase i.mode (operandWord i) s).1 f (addressPhase i.mode (operandWord i) s).2).ready
      = true := busWrite_ready hu
  obtain ⟨t, ht, he⟩ := run_ends h hM
  rw [hi, hg _ _ hc] at he
  have hro := (addressPhase_readsOnly i.mode (operandWord i) s).trans
    (busRead_readsOnly (addressPhase i.mode (operandWord i) s).1 _)
  have hk := (addressPhase_kept i.mode (operandWord i) s).trans
    ((busRead_kept (addressPhase i.mode (operandWord i) s).1 _).trans
      ((busWrite_kept (addressPhase i.mode (operandWord i) s).1 _ _).trans
        ((busWrite_kept (addressPhase i.mode (operandWord i) s).1 _ _).trans he.kept)))
  have hcell : ∀ dev idx, t.cell dev idx = _ := fun dev idx => (cell_devices he.devices dev idx).trans
    (busWrite_cell _ _ _ dev idx hu)
  have hcell2 := fun dev idx => busWrite_cell (addressPhase i.mode (operandWord i) s).1
    (busRead (addressPhase i.mode (operandWord i) s).1 (addressPhase i.mode (operandWord i) s).2).1 _ dev idx hr
  refine ⟨t, (exec_eq_run i s).trans ht, he, fun dev idx hnot => ?_, fun dev idx hyes => ?_, hk.sameWiring, ?_⟩
  · rw [List.mem_cons, List.mem_singleton, not_or] at hnot
    rw [hcell, if_neg (fun h => hnot.2 h.symm), hcell2, if_neg (fun h => hnot.1 h.symm)]
    exact cell_devices hro.1 dev idx
  · rw [hcell, if_pos hyes]
  · rw [he.diagnostics]
    unfold rmwPhase
    rw [busWrite_diagnostics, busWrite_diagnostics]
    exact hro.2.2.2

end Sys2Proof.Machine
end

