-- ==== Sys2Proof/Laws/PerInstr.lean ====
section
/-! SUPPORT. Per instruction: its encoding has the length its opcode byte gives, and its opcode byte and operand bytes
select it again (R300, R301, R303, R321). One lemma per constructor of `Instr`. -/

namespace Sys2Proof.Laws.Encoding

open Sys2Proof.Machine

/-- The bytes of an instruction: their number is the one its opcode byte gives, and they build the instruction. -/
def Statement (i : Instr) : Prop :=
  (encode i).length = lengthOf i.opcode ∧
    instrAt i.opcode (i.operandBytes[0]?.getD 0) (i.operandBytes[1]?.getD 0) = i

/-- A row without operand bytes. -/
theorem ofF1 {i : Instr} {op : Byte} (hr : rowAt op = .f1 i) (hl : lengthOf op = 1) (ho : i.opcode = op)
    (hb : i.operandBytes = []) : Statement i := by
  unfold Statement encode instrAt
  rw [hb, ho, hl, hr]
  exact ⟨rfl, rfl⟩

/-- A row with one operand byte. -/
theorem ofF2 {mk : Byte → Instr} {op : Byte} (hr : rowAt op = .f2 mk) (hl : lengthOf op = 2)
    (ho : ∀ b, (mk b).opcode = op) (hb : ∀ b, (mk b).operandBytes = [b]) (b : Byte) : Statement (mk b) := by
  unfold Statement encode instrAt
  rw [hb, ho, hl, hr]
  exact ⟨rfl, rfl⟩

/-- A row with two operand bytes. -/
theorem ofF3 {mk : Word → Instr} {op : Byte} (hr : rowAt op = .f3 mk) (hl : lengthOf op = 3)
    (ho : ∀ w, (mk w).opcode = op) (hb : ∀ w, (mk w).operandBytes = [loByte w, hiByte w]) (w : Word) :
    Statement (mk w) := by
  unfold Statement encode instrAt
  rw [hb, ho, hl, hr]
  exact ⟨rfl, congrArg mk (join_hi_lo w)⟩

theorem brk (b : Byte) : Statement (.brk b) :=
  ofF2 (op := 0x00) rfl rfl (fun _ => rfl) (fun _ => rfl) b
theorem oraIzx (b : Byte) : Statement (.oraIzx b) :=
  ofF2 (op := 0x01) rfl rfl (fun _ => rfl) (fun _ => rfl) b
theorem jam02 : Statement .jam02 := ofF1 (op := 0x02) rfl rfl rfl rfl
theorem sloIzx (b : Byte) : Statement (.sloIzx b) :=
  ofF2 (op := 0x03) rfl rfl (fun _ => rfl) (fun _ => rfl) b
theorem nopZp04 (b : Byte) : Statement (.nopZp04 b) :=
  ofF2 (op := 0x04) rfl rfl (fun _ => rfl) (fun _ => rfl) b
theorem oraZp (b : Byte) : Statement (.oraZp b) :=
  ofF2 (op := 0x05) rfl rfl (fun _ => rfl) (fun _ => rfl) b
theorem aslZp (b : Byte) : Statement (.aslZp b) :=
  ofF2 (op := 0x06) rfl rfl (fun _ => rfl) (fun _ => rfl) b
theorem sloZp (b : Byte) : Statement (.sloZp b) :=
  ofF2 (op := 0x07) rfl rfl (fun _ => rfl) (fun _ => rfl) b
theorem php : Statement .php := ofF1 (op := 0x08) rfl rfl rfl rfl
theorem oraImm (b : Byte) : Statement (.oraImm b) :=
  ofF2 (op := 0x09) rfl rfl (fun _ => rfl) (fun _ => rfl) b
theorem aslAcc : Statement .aslAcc := ofF1 (op := 0x0A) rfl rfl rfl rfl
theorem anc0B (b : Byte) : Statement (.anc0B b) :=
  ofF2 (op := 0x0B) rfl rfl (fun _ => rfl) (fun _ => rfl) b
theorem nopAbs (w : Word) : Statement (.nopAbs w) :=
  ofF3 (op := 0x0C) rfl rfl (fun _ => rfl) (fun _ => rfl) w
theorem oraAbs (w : Word) : Statement (.oraAbs w) :=
  ofF3 (op := 0x0D) rfl rfl (fun _ => rfl) (fun _ => rfl) w
theorem aslAbs (w : Word) : Statement (.aslAbs w) :=
  ofF3 (op := 0x0E) rfl rfl (fun _ => rfl) (fun _ => rfl) w
theorem sloAbs (w : Word) : Statement (.sloAbs w) :=
  ofF3 (op := 0x0F) rfl rfl (fun _ => rfl) (fun _ => rfl) w
theorem bpl (b : Byte) : Statement (.bpl b) :=
  ofF2 (op := 0x10) rfl rfl (fun _ => rfl) (fun _ => rfl) b
theorem oraIzy (b : Byte) : Statement (.oraIzy b) :=
  ofF2 (op := 0x11) rfl rfl (fun _ => rfl) (fun _ => rfl) b
theorem jam12 : Statement .jam12 := ofF1 (op := 0x12) rfl rfl rfl rfl
theorem sloIzy (b : Byte) : Statement (.sloIzy b) :=
  ofF2 (op := 0x13) rfl rfl (fun _ => rfl) (fun _ => rfl) b
theorem nopZpx14 (b : Byte) : Statement (.nopZpx14 b) :=
  ofF2 (op := 0x14) rfl rfl (fun _ => rfl) (fun _ => rfl) b
theorem oraZpx (b : Byte) : Statement (.oraZpx b) :=
  ofF2 (op := 0x15) rfl rfl (fun _ => rfl) (fun _ => rfl) b
theorem aslZpx (b : Byte) : Statement (.aslZpx b) :=
  ofF2 (op := 0x16) rfl rfl (fun _ => rfl) (fun _ => rfl) b
theorem sloZpx (b : Byte) : Statement (.sloZpx b) :=
  ofF2 (op := 0x17) rfl rfl (fun _ => rfl) (fun _ => rfl) b
theorem clc : Statement .clc := ofF1 (op := 0x18) rfl rfl rfl rfl
theorem oraAbsy (w : Word) : Statement (.oraAbsy w) :=
  ofF3 (op := 0x19) rfl rfl (fun _ => rfl) (fun _ => rfl) w
theorem nopImp1A : Statement .nopImp1A := ofF1 (op := 0x1A) rfl rfl rfl rfl
theorem sloAbsy (w : Word) : Statement (.sloAbsy w) :=
  ofF3 (op := 0x1B) rfl rfl (fun _ => rfl) (fun _ => rfl) w
theorem nopAbsx1C (w : Word) : Statement (.nopAbsx1C w) :=
  ofF3 (op := 0x1C) rfl rfl (fun _ => rfl) (fun _ => rfl) w
theorem oraAbsx (w : Word) : Statement (.oraAbsx w) :=
  ofF3 (op := 0x1D) rfl rfl (fun _ => rfl) (fun _ => rfl) w
theorem aslAbsx (w : Word) : Statement (.aslAbsx w) :=
  ofF3 (op := 0x1E) rfl rfl (fun _ => rfl) (fun _ => rfl) w
theorem sloAbsx (w : Word) : Statement (.sloAbsx w) :=
  ofF3 (op := 0x1F) rfl rfl (fun _ => rfl) (fun _ => rfl) w
theorem jsrAbs (w : Word) : Statement (.jsrAbs w) :=
  ofF3 (op := 0x20) rfl rfl (fun _ => rfl) (fun _ => rfl) w
theorem andIzx (b : Byte) : Statement (.andIzx b) :=
  ofF2 (op := 0x21) rfl rfl (fun _ => rfl) (fun _ => rfl) b
theorem jam22 : Statement .jam22 := ofF1 (op := 0x22) rfl rfl rfl rfl
theorem rlaIzx (b : Byte) : Statement (.rlaIzx b) :=
  ofF2 (op := 0x23) rfl rfl (fun _ => rfl) (fun _ => rfl) b
theorem bitZp (b : Byte) : Statement (.bitZp b) :=
  ofF2 (op := 0x24) rfl rfl (fun _ => rfl) (fun _ => rfl) b
theorem andZp (b : Byte) : Statement (.andZp b) :=
  ofF2 (op := 0x25) rfl rfl (fun _ => rfl) (fun _ => rfl) b
theorem rolZp (b : Byte) : Statement (.rolZp b) :=
  ofF2 (op := 0x26) rfl rfl (fun _ => rfl) (fun _ => rfl) b
theorem rlaZp (b : Byte) : Statement (.rlaZp b) :=
  ofF2 (op := 0x27) rfl rfl (fun _ => rfl) (fun _ => rfl) b
theorem plp : Statement .plp := ofF1 (op := 0x28) rfl rfl rfl rfl
theorem andImm (b : Byte) : Statement (.andImm b) :=
  ofF2 (op := 0x29) rfl rfl (fun _ => rfl) (fun _ => rfl) b
theorem rolAcc : Statement .rolAcc := ofF1 (op := 0x2A) rfl rfl rfl rfl
theorem anc2B (b : Byte) : Statement (.anc2B b) :=
  ofF2 (op := 0x2B) rfl rfl (fun _ => rfl) (fun _ => rfl) b
theorem bitAbs (w : Word) : Statement (.bitAbs w) :=
  ofF3 (op := 0x2C) rfl rfl (fun _ => rfl) (fun _ => rfl) w
theorem andAbs (w : Word) : Statement (.andAbs w) :=
  ofF3 (op := 0x2D) rfl rfl (fun _ => rfl) (fun _ => rfl) w
theorem rolAbs (w : Word) : Statement (.rolAbs w) :=
  ofF3 (op := 0x2E) rfl rfl (fun _ => rfl) (fun _ => rfl) w
theorem rlaAbs (w : Word) : Statement (.rlaAbs w) :=
  ofF3 (op := 0x2F) rfl rfl (fun _ => rfl) (fun _ => rfl) w
theorem bmi (b : Byte) : Statement (.bmi b) :=
  ofF2 (op := 0x30) rfl rfl (fun _ => rfl) (fun _ => rfl) b
theorem andIzy (b : Byte) : Statement (.andIzy b) :=
  ofF2 (op := 0x31) rfl rfl (fun _ => rfl) (fun _ => rfl) b
theorem jam32 : Statement .jam32 := ofF1 (op := 0x32) rfl rfl rfl rfl
theorem rlaIzy (b : Byte) : Statement (.rlaIzy b) :=
  ofF2 (op := 0x33) rfl rfl (fun _ => rfl) (fun _ => rfl) b
theorem nopZpx34 (b : Byte) : Statement (.nopZpx34 b) :=
  ofF2 (op := 0x34) rfl rfl (fun _ => rfl) (fun _ => rfl) b
theorem andZpx (b : Byte) : Statement (.andZpx b) :=
  ofF2 (op := 0x35) rfl rfl (fun _ => rfl) (fun _ => rfl) b
theorem rolZpx (b : Byte) : Statement (.rolZpx b) :=
  ofF2 (op := 0x36) rfl rfl (fun _ => rfl) (fun _ => rfl) b
theorem rlaZpx (b : Byte) : Statement (.rlaZpx b) :=
  ofF2 (op := 0x37) rfl rfl (fun _ => rfl) (fun _ => rfl) b
theorem sec : Statement .sec := ofF1 (op := 0x38) rfl rfl rfl rfl
theorem andAbsy (w : Word) : Statement (.andAbsy w) :=
  ofF3 (op := 0x39) rfl rfl (fun _ => rfl) (fun _ => rfl) w
theorem nopImp3A : Statement .nopImp3A := ofF1 (op := 0x3A) rfl rfl rfl rfl
theorem rlaAbsy (w : Word) : Statement (.rlaAbsy w) :=
  ofF3 (op := 0x3B) rfl rfl (fun _ => rfl) (fun _ => rfl) w
theorem nopAbsx3C (w : Word) : Statement (.nopAbsx3C w) :=
  ofF3 (op := 0x3C) rfl rfl (fun _ => rfl) (fun _ => rfl) w
theorem andAbsx (w : Word) : Statement (.andAbsx w) :=
  ofF3 (op := 0x3D) rfl rfl (fun _ => rfl) (fun _ => rfl) w
theorem rolAbsx (w : Word) : Statement (.rolAbsx w) :=
  ofF3 (op := 0x3E) rfl rfl (fun _ => rfl) (fun _ => rfl) w
theorem rlaAbsx (w : Word) : Statement (.rlaAbsx w) :=
  ofF3 (op := 0x3F) rfl rfl (fun _ => rfl) (fun _ => rfl) w
theorem rti : Statement .rti := ofF1 (op := 0x40) rfl rfl rfl rfl
theorem eorIzx (b : Byte) : Statement (.eorIzx b) :=
  ofF2 (op := 0x41) rfl rfl (fun _ => rfl) (fun _ => rfl) b
theorem jam42 : Statement .jam42 := ofF1 (op := 0x42) rfl rfl rfl rfl
theorem sreIzx (b : Byte) : Statement (.sreIzx b) :=
  ofF2 (op := 0x43) rfl rfl (fun _ => rfl) (fun _ => rfl) b
theorem nopZp44 (b : Byte) : Statement (.nopZp44 b) :=
  ofF2 (op := 0x44) rfl rfl (fun _ => rfl) (fun _ => rfl) b
theorem eorZp (b : Byte) : Statement (.eorZp b) :=
  ofF2 (op := 0x45) rfl rfl (fun _ => rfl) (fun _ => rfl) b
theorem lsrZp (b : Byte) : Statement (.lsrZp b) :=
  ofF2 (op := 0x46) rfl rfl (fun _ => rfl) (fun _ => rfl) b
theorem sreZp (b : Byte) : Statement (.sreZp b) :=
  ofF2 (op := 0x47) rfl rfl (fun _ => rfl) (fun _ => rfl) b
theorem pha : Statement .pha := ofF1 (op := 0x48) rfl rfl rfl rfl
theorem eorImm (b : Byte) : Statement (.eorImm b) :=
  ofF2 (op := 0x49) rfl rfl (fun _ => rfl) (fun _ => rfl) b
theorem lsrAcc : Statement .lsrAcc := ofF1 (op := 0x4A) rfl rfl rfl rfl
theorem alrImm (b : Byte) : Statement (.alrImm b) :=
  ofF2 (op := 0x4B) rfl rfl (fun _ => rfl) (fun _ => rfl) b
theorem jmpAbs (w : Word) : Statement (.jmpAbs w) :=
  ofF3 (op := 0x4C) rfl rfl (fun _ => rfl) (fun _ => rfl) w
theorem eorAbs (w : Word) : Statement (.eorAbs w) :=
  ofF3 (op := 0x4D) rfl rfl (fun _ => rfl) (fun _ => rfl) w
theorem lsrAbs (w : Word) : Statement (.lsrAbs w) :=
  ofF3 (op := 0x4E) rfl rfl (fun _ => rfl) (fun _ => rfl) w
theorem sreAbs (w : Word) : Statement (.sreAbs w) :=
  ofF3 (op := 0x4F) rfl rfl (fun _ => rfl) (fun _ => rfl) w
theorem bvc (b : Byte) : Statement (.bvc b) :=
  ofF2 (op := 0x50) rfl rfl (fun _ => rfl) (fun _ => rfl) b
theorem eorIzy (b : Byte) : Statement (.eorIzy b) :=
  ofF2 (op := 0x51) rfl rfl (fun _ => rfl) (fun _ => rfl) b
theorem jam52 : Statement .jam52 := ofF1 (op := 0x52) rfl rfl rfl rfl
theorem sreIzy (b : Byte) : Statement (.sreIzy b) :=
  ofF2 (op := 0x53) rfl rfl (fun _ => rfl) (fun _ => rfl) b
theorem nopZpx54 (b : Byte) : Statement (.nopZpx54 b) :=
  ofF2 (op := 0x54) rfl rfl (fun _ => rfl) (fun _ => rfl) b
theorem eorZpx (b : Byte) : Statement (.eorZpx b) :=
  ofF2 (op := 0x55) rfl rfl (fun _ => rfl) (fun _ => rfl) b
theorem lsrZpx (b : Byte) : Statement (.lsrZpx b) :=
  ofF2 (op := 0x56) rfl rfl (fun _ => rfl) (fun _ => rfl) b
theorem sreZpx (b : Byte) : Statement (.sreZpx b) :=
  ofF2 (op := 0x57) rfl rfl (fun _ => rfl) (fun _ => rfl) b
theorem cli : Statement .cli := ofF1 (op := 0x58) rfl rfl rfl rfl
theorem eorAbsy (w : Word) : Statement (.eorAbsy w) :=
  ofF3 (op := 0x59) rfl rfl (fun _ => rfl) (fun _ => rfl) w
theorem nopImp5A : Statement .nopImp5A := ofF1 (op := 0x5A) rfl rfl rfl rfl
theorem sreAbsy (w : Word) : Statement (.sreAbsy w) :=
  ofF3 (op := 0x5B) rfl rfl (fun _ => rfl) (fun _ => rfl) w
theorem nopAbsx5C (w : Word) : Statement (.nopAbsx5C w) :=
  ofF3 (op := 0x5C) rfl rfl (fun _ => rfl) (fun _ => rfl) w
theorem eorAbsx (w : Word) : Statement (.eorAbsx w) :=
  ofF3 (op := 0x5D) rfl rfl (fun _ => rfl) (fun _ => rfl) w
theorem lsrAbsx (w : Word) : Statement (.lsrAbsx w) :=
  ofF3 (op := 0x5E) rfl rfl (fun _ => rfl) (fun _ => rfl) w
theorem sreAbsx (w : Word) : Statement (.sreAbsx w) :=
  ofF3 (op := 0x5F) rfl rfl (fun _ => rfl) (fun _ => rfl) w
theorem rts : Statement .rts := ofF1 (op := 0x60) rfl rfl rfl rfl
theorem adcIzx (b : Byte) : Statement (.adcIzx b) :=
  ofF2 (op := 0x61) rfl rfl (fun _ => rfl) (fun _ => rfl) b
theorem jam62 : Statement .jam62 := ofF1 (op := 0x62) rfl rfl rfl rfl
theorem rraIzx (b : Byte) : Statement (.rraIzx b) :=
  ofF2 (op := 0x63) rfl rfl (fun _ => rfl) (fun _ => rfl) b
theorem nopZp64 (b : Byte) : Statement (.nopZp64 b) :=
  ofF2 (op := 0x64) rfl rfl (fun _ => rfl) (fun _ => rfl) b
theorem adcZp (b : Byte) : Statement (.adcZp b) :=
  ofF2 (op := 0x65) rfl rfl (fun _ => rfl) (fun _ => rfl) b
theorem rorZp (b : Byte) : Statement (.rorZp b) :=
  ofF2 (op := 0x66) rfl rfl (fun _ => rfl) (fun _ => rfl) b
theorem rraZp (b : Byte) : Statement (.rraZp b) :=
  ofF2 (op := 0x67) rfl rfl (fun _ => rfl) (fun _ => rfl) b
theorem pla : Statement .pla := ofF1 (op := 0x68) rfl rfl rfl rfl
theorem adcImm (b : Byte) : Statement (.adcImm b) :=
  ofF2 (op := 0x69) rfl rfl (fun _ => rfl) (fun _ => rfl) b
theorem rorAcc : Statement .rorAcc := ofF1 (op := 0x6A) rfl rfl rfl rfl
theorem arrImm (b : Byte) : Statement (.arrImm b) :=
  ofF2 (op := 0x6B) rfl rfl (fun _ => rfl) (fun _ => rfl) b
theorem jmpInd (w : Word) : Statement (.jmpInd w) :=
  ofF3 (op := 0x6C) rfl rfl (fun _ => rfl) (fun _ => rfl) w
theorem adcAbs (w : Word) : Statement (.adcAbs w) :=
  ofF3 (op := 0x6D) rfl rfl (fun _ => rfl) (fun _ => rfl) w
theorem rorAbs (w : Word) : Statement (.rorAbs w) :=
  ofF3 (op := 0x6E) rfl rfl (fun _ => rfl) (fun _ => rfl) w
theorem rraAbs (w : Word) : Statement (.rraAbs w) :=
  ofF3 (op := 0x6F) rfl rfl (fun _ => rfl) (fun _ => rfl) w
theorem bvs (b : Byte) : Statement (.bvs b) :=
  ofF2 (op := 0x70) rfl rfl (fun _ => rfl) (fun _ => rfl) b
theorem adcIzy (b : Byte) : Statement (.adcIzy b) :=
  ofF2 (op := 0x71) rfl rfl (fun _ => rfl) (fun _ => rfl) b
theorem jam72 : Statement .jam72 := ofF1 (op := 0x72) rfl rfl rfl rfl
theorem rraIzy (b : Byte) : Statement (.rraIzy b) :=
  ofF2 (op := 0x73) rfl rfl (fun _ => rfl) (fun _ => rfl) b
theorem nopZpx74 (b : Byte) : Statement (.nopZpx74 b) :=
  ofF2 (op := 0x74) rfl rfl (fun _ => rfl) (fun _ => rfl) b
theorem adcZpx (b : Byte) : Statement (.adcZpx b) :=
  ofF2 (op := 0x75) rfl rfl (fun _ => rfl) (fun _ => rfl) b
theorem rorZpx (b : Byte) : Statement (.rorZpx b) :=
  ofF2 (op := 0x76) rfl rfl (fun _ => rfl) (fun _ => rfl) b
theorem rraZpx (b : Byte) : Statement (.rraZpx b) :=
  ofF2 (op := 0x77) rfl rfl (fun _ => rfl) (fun _ => rfl) b
theorem sei : Statement .sei := ofF1 (op := 0x78) rfl rfl rfl rfl
theorem adcAbsy (w : Word) : Statement (.adcAbsy w) :=
  ofF3 (op := 0x79) rfl rfl (fun _ => rfl) (fun _ => rfl) w
theorem nopImp7A : Statement .nopImp7A := ofF1 (op := 0x7A) rfl rfl rfl rfl
theorem rraAbsy (w : Word) : Statement (.rraAbsy w) :=
  ofF3 (op := 0x7B) rfl rfl (fun _ => rfl) (fun _ => rfl) w
theorem nopAbsx7C (w : Word) : Statement (.nopAbsx7C w) :=
  ofF3 (op := 0x7C) rfl rfl (fun _ => rfl) (fun _ => rfl) w
theorem adcAbsx (w : Word) : Statement (.adcAbsx w) :=
  ofF3 (op := 0x7D) rfl rfl (fun _ => rfl) (fun _ => rfl) w
theorem rorAbsx (w : Word) : Statement (.rorAbsx w) :=
  ofF3 (op := 0x7E) rfl rfl (fun _ => rfl) (fun _ => rfl) w
theorem rraAbsx (w : Word) : Statement (.rraAbsx w) :=
  ofF3 (op := 0x7F) rfl rfl (fun _ => rfl) (fun _ => rfl) w
theorem nopImm80 (b : Byte) : Statement (.nopImm80 b) :=
  ofF2 (op := 0x80) rfl rfl (fun _ => rfl) (fun _ => rfl) b
theorem staIzx (b : Byte) : Statement (.staIzx b) :=
  ofF2 (op := 0x81) rfl rfl (fun _ => rfl) (fun _ => rfl) b
theorem nopImm82 (b : Byte) : Statement (.nopImm82 b) :=
  ofF2 (op := 0x82) rfl rfl (fun _ => rfl) (fun _ => rfl) b
theorem saxIzx (b : Byte) : Statement (.saxIzx b) :=
  ofF2 (op := 0x83) rfl rfl (fun _ => rfl) (fun _ => rfl) b
theorem styZp (b : Byte) : Statement (.styZp b) :=
  ofF2 (op := 0x84) rfl rfl (fun _ => rfl) (fun _ => rfl) b
theorem staZp (b : Byte) : Statement (.staZp b) :=
  ofF2 (op := 0x85) rfl rfl (fun _ => rfl) (fun _ => rfl) b
theorem stxZp (b : Byte) : Statement (.stxZp b) :=
  ofF2 (op := 0x86) rfl rfl (fun _ => rfl) (fun _ => rfl) b
theorem saxZp (b : Byte) : Statement (.saxZp b) :=
  ofF2 (op := 0x87) rfl rfl (fun _ => rfl) (fun _ => rfl) b
theorem dey : Statement .dey := ofF1 (op := 0x88) rfl rfl rfl rfl
theorem nopImm89 (b : Byte) : Statement (.nopImm89 b) :=
  ofF2 (op := 0x89) rfl rfl (fun _ => rfl) (fun _ => rfl) b
theorem txa : Statement .txa := ofF1 (op := 0x8A) rfl rfl rfl rfl
theorem aneImm (b : Byte) : Statement (.aneImm b) :=
  ofF2 (op := 0x8B) rfl rfl (fun _ => rfl) (fun _ => rfl) b
theorem styAbs (w : Word) : Statement (.styAbs w) :=
  ofF3 (op := 0x8C) rfl rfl (fun _ => rfl) (fun _ => rfl) w
theorem staAbs (w : Word) : Statement (.staAbs w) :=
  ofF3 (op := 0x8D) rfl rfl (fun _ => rfl) (fun _ => rfl) w
theorem stxAbs (w : Word) : Statement (.stxAbs w) :=
  ofF3 (op := 0x8E) rfl rfl (fun _ => rfl) (fun _ => rfl) w
theorem saxAbs (w : Word) : Statement (.saxAbs w) :=
  ofF3 (op := 0x8F) rfl rfl (fun _ => rfl) (fun _ => rfl) w
theorem bcc (b : Byte) : Statement (.bcc b) :=
  ofF2 (op := 0x90) rfl rfl (fun _ => rfl) (fun _ => rfl) b
theorem staIzy (b : Byte) : Statement (.staIzy b) :=
  ofF2 (op := 0x91) rfl rfl (fun _ => rfl) (fun _ => rfl) b
theorem jam92 : Statement .jam92 := ofF1 (op := 0x92) rfl rfl rfl rfl
theorem shaIzy (b : Byte) : Statement (.shaIzy b) :=
  ofF2 (op := 0x93) rfl rfl (fun _ => rfl) (fun _ => rfl) b
theorem styZpx (b : Byte) : Statement (.styZpx b) :=
  ofF2 (op := 0x94) rfl rfl (fun _ => rfl) (fun _ => rfl) b
theorem staZpx (b : Byte) : Statement (.staZpx b) :=
  ofF2 (op := 0x95) rfl rfl (fun _ => rfl) (fun _ => rfl) b
theorem stxZpy (b : Byte) : Statement (.stxZpy b) :=
  ofF2 (op := 0x96) rfl rfl (fun _ => rfl) (fun _ => rfl) b
theorem saxZpy (b : Byte) : Statement (.saxZpy b) :=
  ofF2 (op := 0x97) rfl rfl (fun _ => rfl) (fun _ => rfl) b
theorem tya : Statement .tya := ofF1 (op := 0x98) rfl rfl rfl rfl
theorem staAbsy (w : Word) : Statement (.staAbsy w) :=
  ofF3 (op := 0x99) rfl rfl (fun _ => rfl) (fun _ => rfl) w
theorem txs : Statement .txs := ofF1 (op := 0x9A) rfl rfl rfl rfl
theorem tasAbsy (w : Word) : Statement (.tasAbsy w) :=
  ofF3 (op := 0x9B) rfl rfl (fun _ => rfl) (fun _ => rfl) w
theorem shyAbsx (w : Word) : Statement (.shyAbsx w) :=
  ofF3 (op := 0x9C) rfl rfl (fun _ => rfl) (fun _ => rfl) w
theorem staAbsx (w : Word) : Statement (.staAbsx w) :=
  ofF3 (op := 0x9D) rfl rfl (fun _ => rfl) (fun _ => rfl) w
theorem shxAbsy (w : Word) : Statement (.shxAbsy w) :=
  ofF3 (op := 0x9E) rfl rfl (fun _ => rfl) (fun _ => rfl) w
theorem shaAbsy (w : Word) : Statement (.shaAbsy w) :=
  ofF3 (op := 0x9F) rfl rfl (fun _ => rfl) (fun _ => rfl) w
theorem ldyImm (b : Byte) : Statement (.ldyImm b) :=
  ofF2 (op := 0xA0) rfl rfl (fun _ => rfl) (fun _ => rfl) b
theorem ldaIzx (b : Byte) : Statement (.ldaIzx b) :=
  ofF2 (op := 0xA1) rfl rfl (fun _ => rfl) (fun _ => rfl) b
theorem ldxImm (b : Byte) : Statement (.ldxImm b) :=
  ofF2 (op := 0xA2) rfl rfl (fun _ => rfl) (fun _ => rfl) b
theorem laxIzx (b : Byte) : Statement (.laxIzx b) :=
  ofF2 (op := 0xA3) rfl rfl (fun _ => rfl) (fun _ => rfl) b
theorem ldyZp (b : Byte) : Statement (.ldyZp b) :=
  ofF2 (op := 0xA4) rfl rfl (fun _ => rfl) (fun _ => rfl) b
theorem ldaZp (b : Byte) : Statement (.ldaZp b) :=
  ofF2 (op := 0xA5) rfl rfl (fun _ => rfl) (fun _ => rfl) b
theorem ldxZp (b : Byte) : Statement (.ldxZp b) :=
  ofF2 (op := 0xA6) rfl rfl (fun _ => rfl) (fun _ => rfl) b
theorem laxZp (b : Byte) : Statement (.laxZp b) :=
  ofF2 (op := 0xA7) rfl rfl (fun _ => rfl) (fun _ => rfl) b
theorem tay : Statement .tay := ofF1 (op := 0xA8) rfl rfl rfl rfl
theorem ldaImm (b : Byte) : Statement (.ldaImm b) :=
  ofF2 (op := 0xA9) rfl rfl (fun _ => rfl) (fun _ => rfl) b
theorem tax : Statement .tax := ofF1 (op := 0xAA) rfl rfl rfl rfl
theorem lxaImm (b : Byte) : Statement (.lxaImm b) :=
  ofF2 (op := 0xAB) rfl rfl (fun _ => rfl) (fun _ => rfl) b
theorem ldyAbs (w : Word) : Statement (.ldyAbs w) :=
  ofF3 (op := 0xAC) rfl rfl (fun _ => rfl) (fun _ => rfl) w
theorem ldaAbs (w : Word) : Statement (.ldaAbs w) :=
  ofF3 (op := 0xAD) rfl rfl (fun _ => rfl) (fun _ => rfl) w
theorem ldxAbs (w : Word) : Statement (.ldxAbs w) :=
  ofF3 (op := 0xAE) rfl rfl (fun _ => rfl) (fun _ => rfl) w
theorem laxAbs (w : Word) : Statement (.laxAbs w) :=
  ofF3 (op := 0xAF) rfl rfl (fun _ => rfl) (fun _ => rfl) w
theorem bcs (b : Byte) : Statement (.bcs b) :=
  ofF2 (op := 0xB0) rfl rfl (fun _ => rfl) (fun _ => rfl) b
theorem ldaIzy (b : Byte) : Statement (.ldaIzy b) :=
  ofF2 (op := 0xB1) rfl rfl (fun _ => rfl) (fun _ => rfl) b
theorem jamB2 : Statement .jamB2 := ofF1 (op := 0xB2) rfl rfl rfl rfl
theorem laxIzy (b : Byte) : Statement (.laxIzy b) :=
  ofF2 (op := 0xB3) rfl rfl (fun _ => rfl) (fun _ => rfl) b
theorem ldyZpx (b : Byte) : Statement (.ldyZpx b) :=
  ofF2 (op := 0xB4) rfl rfl (fun _ => rfl) (fun _ => rfl) b
theorem ldaZpx (b : Byte) : Statement (.ldaZpx b) :=
  ofF2 (op := 0xB5) rfl rfl (fun _ => rfl) (fun _ => rfl) b
theorem ldxZpy (b : Byte) : Statement (.ldxZpy b) :=
  ofF2 (op := 0xB6) rfl rfl (fun _ => rfl) (fun _ => rfl) b
theorem laxZpy (b : Byte) : Statement (.laxZpy b) :=
  ofF2 (op := 0xB7) rfl rfl (fun _ => rfl) (fun _ => rfl) b
theorem clv : Statement .clv := ofF1 (op := 0xB8) rfl rfl rfl rfl
theorem ldaAbsy (w : Word) : Statement (.ldaAbsy w) :=
  ofF3 (op := 0xB9) rfl rfl (fun _ => rfl) (fun _ => rfl) w
theorem tsx : Statement .tsx := ofF1 (op := 0xBA) rfl rfl rfl rfl
theorem lasAbsy (w : Word) : Statement (.lasAbsy w) :=
  ofF3 (op := 0xBB) rfl rfl (fun _ => rfl) (fun _ => rfl) w
theorem ldyAbsx (w : Word) : Statement (.ldyAbsx w) :=
  ofF3 (op := 0xBC) rfl rfl (fun _ => rfl) (fun _ => rfl) w
theorem ldaAbsx (w : Word) : Statement (.ldaAbsx w) :=
  ofF3 (op := 0xBD) rfl rfl (fun _ => rfl) (fun _ => rfl) w
theorem ldxAbsy (w : Word) : Statement (.ldxAbsy w) :=
  ofF3 (op := 0xBE) rfl rfl (fun _ => rfl) (fun _ => rfl) w
theorem laxAbsy (w : Word) : Statement (.laxAbsy w) :=
  ofF3 (op := 0xBF) rfl rfl (fun _ => rfl) (fun _ => rfl) w
theorem cpyImm (b : Byte) : Statement (.cpyImm b) :=
  ofF2 (op := 0xC0) rfl rfl (fun _ => rfl) (fun _ => rfl) b
theorem cmpIzx (b : Byte) : Statement (.cmpIzx b) :=
  ofF2 (op := 0xC1) rfl rfl (fun _ => rfl) (fun _ => rfl) b
theorem nopImmC2 (b : Byte) : Statement (.nopImmC2 b) :=
  ofF2 (op := 0xC2) rfl rfl (fun _ => rfl) (fun _ => rfl) b
theorem dcpIzx (b : Byte) : Statement (.dcpIzx b) :=
  ofF2 (op := 0xC3) rfl rfl (fun _ => rfl) (fun _ => rfl) b
theorem cpyZp (b : Byte) : Statement (.cpyZp b) :=
  ofF2 (op := 0xC4) rfl rfl (fun _ => rfl) (fun _ => rfl) b
theorem cmpZp (b : Byte) : Statement (.cmpZp b) :=
  ofF2 (op := 0xC5) rfl rfl (fun _ => rfl) (fun _ => rfl) b
theorem decZp (b : Byte) : Statement (.decZp b) :=
  ofF2 (op := 0xC6) rfl rfl (fun _ => rfl) (fun _ => rfl) b
theorem dcpZp (b : Byte) : Statement (.dcpZp b) :=
  ofF2 (op := 0xC7) rfl rfl (fun _ => rfl) (fun _ => rfl) b
theorem iny : Statement .iny := ofF1 (op := 0xC8) rfl rfl rfl rfl
theorem cmpImm (b : Byte) : Statement (.cmpImm b) :=
  ofF2 (op := 0xC9) rfl rfl (fun _ => rfl) (fun _ => rfl) b
theorem dex : Statement .dex := ofF1 (op := 0xCA) rfl rfl rfl rfl
theorem sbxImm (b : Byte) : Statement (.sbxImm b) :=
  ofF2 (op := 0xCB) rfl rfl (fun _ => rfl) (fun _ => rfl) b
theorem cpyAbs (w : Word) : Statement (.cpyAbs w) :=
  ofF3 (op := 0xCC) rfl rfl (fun _ => rfl) (fun _ => rfl) w
theorem cmpAbs (w : Word) : Statement (.cmpAbs w) :=
  ofF3 (op := 0xCD) rfl rfl (fun _ => rfl) (fun _ => rfl) w
theorem decAbs (w : Word) : Statement (.decAbs w) :=
  ofF3 (op := 0xCE) rfl rfl (fun _ => rfl) (fun _ => rfl) w
theorem dcpAbs (w : Word) : Statement (.dcpAbs w) :=
  ofF3 (op := 0xCF) rfl rfl (fun _ => rfl) (fun _ => rfl) w
theorem bne (b : Byte) : Statement (.bne b) :=
  ofF2 (op := 0xD0) rfl rfl (fun _ => rfl) (fun _ => rfl) b
theorem cmpIzy (b : Byte) : Statement (.cmpIzy b) :=
  ofF2 (op := 0xD1) rfl rfl (fun _ => rfl) (fun _ => rfl) b
theorem jamD2 : Statement .jamD2 := ofF1 (op := 0xD2) rfl rfl rfl rfl
theorem dcpIzy (b : Byte) : Statement (.dcpIzy b) :=
  ofF2 (op := 0xD3) rfl rfl (fun _ => rfl) (fun _ => rfl) b
theorem nopZpxD4 (b : Byte) : Statement (.nopZpxD4 b) :=
  ofF2 (op := 0xD4) rfl rfl (fun _ => rfl) (fun _ => rfl) b
theorem cmpZpx (b : Byte) : Statement (.cmpZpx b) :=
  ofF2 (op := 0xD5) rfl rfl (fun _ => rfl) (fun _ => rfl) b
theorem decZpx (b : Byte) : Statement (.decZpx b) :=
  ofF2 (op := 0xD6) rfl rfl (fun _ => rfl) (fun _ => rfl) b
theorem dcpZpx (b : Byte) : Statement (.dcpZpx b) :=
  ofF2 (op := 0xD7) rfl rfl (fun _ => rfl) (fun _ => rfl) b
theorem cld : Statement .cld := ofF1 (op := 0xD8) rfl rfl rfl rfl
theorem cmpAbsy (w : Word) : Statement (.cmpAbsy w) :=
  ofF3 (op := 0xD9) rfl rfl (fun _ => rfl) (fun _ => rfl) w
theorem nopImpDA : Statement .nopImpDA := ofF1 (op := 0xDA) rfl rfl rfl rfl
theorem dcpAbsy (w : Word) : Statement (.dcpAbsy w) :=
  ofF3 (op := 0xDB) rfl rfl (fun _ => rfl) (fun _ => rfl) w
theorem nopAbsxDC (w : Word) : Statement (.nopAbsxDC w) :=
  ofF3 (op := 0xDC) rfl rfl (fun _ => rfl) (fun _ => rfl) w
theorem cmpAbsx (w : Word) : Statement (.cmpAbsx w) :=
  ofF3 (op := 0xDD) rfl rfl (fun _ => rfl) (fun _ => rfl) w
theorem decAbsx (w : Word) : Statement (.decAbsx w) :=
  ofF3 (op := 0xDE) rfl rfl (fun _ => rfl) (fun _ => rfl) w
theorem dcpAbsx (w : Word) : Statement (.dcpAbsx w) :=
  ofF3 (op := 0xDF) rfl rfl (fun _ => rfl) (fun _ => rfl) w
theorem cpxImm (b : Byte) : Statement (.cpxImm b) :=
  ofF2 (op := 0xE0) rfl rfl (fun _ => rfl) (fun _ => rfl) b
theorem sbcIzx (b : Byte) : Statement (.sbcIzx b) :=
  ofF2 (op := 0xE1) rfl rfl (fun _ => rfl) (fun _ => rfl) b
theorem nopImmE2 (b : Byte) : Statement (.nopImmE2 b) :=
  ofF2 (op := 0xE2) rfl rfl (fun _ => rfl) (fun _ => rfl) b
theorem iscIzx (b : Byte) : Statement (.iscIzx b) :=
  ofF2 (op := 0xE3) rfl rfl (fun _ => rfl) (fun _ => rfl) b
theorem cpxZp (b : Byte) : Statement (.cpxZp b) :=
  ofF2 (op := 0xE4) rfl rfl (fun _ => rfl) (fun _ => rfl) b
theorem sbcZp (b : Byte) : Statement (.sbcZp b) :=
  ofF2 (op := 0xE5) rfl rfl (fun _ => rfl) (fun _ => rfl) b
theorem incZp (b : Byte) : Statement (.incZp b) :=
  ofF2 (op := 0xE6) rfl rfl (fun _ => rfl) (fun _ => rfl) b
theorem iscZp (b : Byte) : Statement (.iscZp b) :=
  ofF2 (op := 0xE7) rfl rfl (fun _ => rfl) (fun _ => rfl) b
theorem inx : Statement .inx := ofF1 (op := 0xE8) rfl rfl rfl rfl
theorem sbcImm (b : Byte) : Statement (.sbcImm b) :=
  ofF2 (op := 0xE9) rfl rfl (fun _ => rfl) (fun _ => rfl) b
theorem nop : Statement .nop := ofF1 (op := 0xEA) rfl rfl rfl rfl
theorem usbcImm (b : Byte) : Statement (.usbcImm b) :=
  ofF2 (op := 0xEB) rfl rfl (fun _ => rfl) (fun _ => rfl) b
theorem cpxAbs (w : Word) : Statement (.cpxAbs w) :=
  ofF3 (op := 0xEC) rfl rfl (fun _ => rfl) (fun _ => rfl) w
theorem sbcAbs (w : Word) : Statement (.sbcAbs w) :=
  ofF3 (op := 0xED) rfl rfl (fun _ => rfl) (fun _ => rfl) w
theorem incAbs (w : Word) : Statement (.incAbs w) :=
  ofF3 (op := 0xEE) rfl rfl (fun _ => rfl) (fun _ => rfl) w
theorem iscAbs (w : Word) : Statement (.iscAbs w) :=
  ofF3 (op := 0xEF) rfl rfl (fun _ => rfl) (fun _ => rfl) w
theorem beq (b : Byte) : Statement (.beq b) :=
  ofF2 (op := 0xF0) rfl rfl (fun _ => rfl) (fun _ => rfl) b
theorem sbcIzy (b : Byte) : Statement (.sbcIzy b) :=
  ofF2 (op := 0xF1) rfl rfl (fun _ => rfl) (fun _ => rfl) b
theorem jamF2 : Statement .jamF2 := ofF1 (op := 0xF2) rfl rfl rfl rfl
theorem iscIzy (b : Byte) : Statement (.iscIzy b) :=
  ofF2 (op := 0xF3) rfl rfl (fun _ => rfl) (fun _ => rfl) b
theorem nopZpxF4 (b : Byte) : Statement (.nopZpxF4 b) :=
  ofF2 (op := 0xF4) rfl rfl (fun _ => rfl) (fun _ => rfl) b
theorem sbcZpx (b : Byte) : Statement (.sbcZpx b) :=
  ofF2 (op := 0xF5) rfl rfl (fun _ => rfl) (fun _ => rfl) b
theorem incZpx (b : Byte) : Statement (.incZpx b) :=
  ofF2 (op := 0xF6) rfl rfl (fun _ => rfl) (fun _ => rfl) b
theorem iscZpx (b : Byte) : Statement (.iscZpx b) :=
  ofF2 (op := 0xF7) rfl rfl (fun _ => rfl) (fun _ => rfl) b
theorem sed : Statement .sed := ofF1 (op := 0xF8) rfl rfl rfl rfl
theorem sbcAbsy (w : Word) : Statement (.sbcAbsy w) :=
  ofF3 (op := 0xF9) rfl rfl (fun _ => rfl) (fun _ => rfl) w
theorem nopImpFA : Statement .nopImpFA := ofF1 (op := 0xFA) rfl rfl rfl rfl
theorem iscAbsy (w : Word) : Statement (.iscAbsy w) :=
  ofF3 (op := 0xFB) rfl rfl (fun _ => rfl) (fun _ => rfl) w
theorem nopAbsxFC (w : Word) : Statement (.nopAbsxFC w) :=
  ofF3 (op := 0xFC) rfl rfl (fun _ => rfl) (fun _ => rfl) w
theorem sbcAbsx (w : Word) : Statement (.sbcAbsx w) :=
  ofF3 (op := 0xFD) rfl rfl (fun _ => rfl) (fun _ => rfl) w
theorem incAbsx (w : Word) : Statement (.incAbsx w) :=
  ofF3 (op := 0xFE) rfl rfl (fun _ => rfl) (fun _ => rfl) w
theorem iscAbsx (w : Word) : Statement (.iscAbsx w) :=
  ofF3 (op := 0xFF) rfl rfl (fun _ => rfl) (fun _ => rfl) w

end Sys2Proof.Laws.Encoding
end

