-- ==== Sys2Proof/Tests/Slice0.lean ====
section
/-! SUPPORT. The tests: words written out from the tables of R300 and R321, refused ill-formed terms, the spec's own
vectors (file 95), one step each, and for every statement with hypotheses a state that meets them. -/

open Sys2Proof Sys2Proof.Machine

namespace Sys2Proof.Tests

set_option Elab.async false

/-! ## Helpers -/

/-- A machine about to fetch at `pc`, with bytes loaded at CPU addresses. -/
def machine (pc : Word) (code : List Byte) (mem : List (Word × Byte)) (f : Cpu → Cpu) : State :=
  ((mem.foldl (fun s m => s.load m.1 m.2) State.reset).loadBytes pc code).mapCpu
    fun c => (f (c.setPc pc)).enter .fetch

/-- The machine at 0x8000. -/
def at8000 (code : List Byte) (mem : List (Word × Byte) := []) (f : Cpu → Cpu := id) : State :=
  machine 0x8000 code mem f

/-- Whether an outcome is a next state with a property. -/
def holds (r : Result) (p : State → Bool) : Bool := match r with | .next t => p t | _ => false

/-- One step from `s` leads to a state with a property. -/
def after (s : State) (p : State → Bool) : Bool := holds (step s) p

/-- C, Z, V and N of a state. -/
def czvn (s : State) : Bool × Bool × Bool × Bool := (s.cpu.p.c, s.cpu.p.z, s.cpu.p.v, s.cpu.p.n)

/-- The cycles a step took. -/
def took (s t : State) : Nat := t.sched.cpuCycles - s.sched.cpuCycles

/-- A property of the state after a step and of the number of cycles. -/
def afterIn (s : State) (cycles : Nat) (p : State → Bool) : Bool := after s fun t => took s t == cycles && p t

def flagC (c : Cpu) : Cpu := c.mapP fun p => { p with c := true }
def flagsClear (c : Cpu) : Cpu := c.setP (Flags.ofByte 0)

/-! ## Decoding, bit by bit from the opcode and format tables (R300, R321) -/

theorem test_decode_lda_imm : decode [0b10101001, 0x10] = .ok (.ldaImm 0x10, []) := by decide
theorem test_decode_sta_absx : decode [0b10011101, 0x00, 0x02] = .ok (.staAbsx 0x0200, []) := by decide
theorem test_decode_ldx_zpy : decode [0b10110110, 0xF0] = .ok (.ldxZpy 0xF0, []) := by decide
theorem test_decode_inc_absx : decode [0b11111110, 0x00, 0x02] = .ok (.incAbsx 0x0200, []) := by decide
theorem test_decode_pha : decode [0b01001000] = .ok (.pha, []) := by decide
theorem test_decode_tsx : decode [0b10111010] = .ok (.tsx, []) := by decide
theorem test_decode_adc_izy : decode [0b01110001, 0x20] = .ok (.adcIzy 0x20, []) := by decide
theorem test_decode_asl_acc : decode [0b00001010] = .ok (.aslAcc, []) := by decide
theorem test_decode_bne : decode [0b11010000, 0xF5] = .ok (.bne 0xF5, []) := by decide
theorem test_decode_jmp_ind : decode [0b01101100, 0xFF, 0x02] = .ok (.jmpInd 0x02FF, []) := by decide
theorem test_decode_jsr : decode [0b00100000, 0x00, 0x90] = .ok (.jsrAbs 0x9000, []) := by decide
theorem test_decode_rti : decode [0b01000000] = .ok (.rti, []) := by decide
theorem test_decode_brk : decode [0b00000000, 0x7F] = .ok (.brk 0x7F, []) := by decide
theorem test_decode_sei : decode [0b01111000] = .ok (.sei, []) := by decide
theorem test_decode_nop : decode [0b11101010] = .ok (.nop, []) := by decide
theorem test_decode_slo_izx : decode [0b00000011, 0x20] = .ok (.sloIzx 0x20, []) := by decide
theorem test_decode_lax_absy : decode [0b10111111, 0x34, 0x12] = .ok (.laxAbsy 0x1234, []) := by decide
theorem test_decode_usbc : decode [0b11101011, 0x03] = .ok (.usbcImm 0x03, []) := by decide
theorem test_decode_jam : decode [0b00000010] = .ok (.jam02, []) := by decide
theorem test_decode_sha_absy : decode [0b10011111, 0x00, 0x02] = .ok (.shaAbsy 0x0200, []) := by decide
theorem test_decode_lxa : decode [0b10101011, 0x00] = .ok (.lxaImm 0x00, []) := by decide
theorem test_decode_table_word : decodeTableWord 24 0x02009D = some (.staAbsx 0x0200) := by decide
theorem test_decode_short_table_word : decodeTableWord 8 0xAD = some (.ldaAbs 0) := by decide
theorem test_encode_low_byte_first : encode (.jmpAbs 0x1234) = [0x4C, 0x34, 0x12] := by decide

/-! ## Ill-formed terms are refused -/

theorem test_wellformed_lda : bytesWellFormed [0xA9, 0x10] = true := by decide
theorem test_illformed_empty : bytesWellFormed [] = false := by decide
theorem test_illformed_missing_operand : bytesWellFormed [0xAD, 0x00] = false := by decide
theorem test_illformed_extra_byte : bytesWellFormed [0xEA, 0x00] = false := by decide
theorem test_decode_rejects_empty : decode [] = .error .noOpcode := by decide
theorem test_decode_rejects_missing_operand : decode [0xAD, 0x00] = .error (.missingOperand 0xAD) := by decide

/-- V7 (R203). -/
theorem test_port_null_device : AddressSpace.cpuPowerUp.clear.addPort .cpu none 0 1 .read = .error .nullDevice := by decide
/-- V8 (R203). -/
theorem test_port_out_of_space :
    AddressSpace.cpuPowerUp.clear.addPort .cpu (some 0) 0xFF00 0x200 .read = .error .outOfSpace := by decide
theorem test_port_empty_range : AddressSpace.cpuPowerUp.addPort .cpu (some 0) 0x5000 0 .both = .error .outOfSpace := by
  decide
theorem test_port_overlap : AddressSpace.cpuPowerUp.addPort .cpu (some 3) 0x7FFF 2 .read = .error .overlap := by decide

/-! ## Memory and open bus (file 95, V1 to V10) -/

/-- V1 (R210). -/
theorem test_v1_open_bus : afterIn (at8000 [0xAD, 0x18, 0x40]) 4 (fun t => t.cpu.a == 0x40) = true := by decide +kernel
/-- V3 (R206, R211). -/
theorem test_v3_rom_ignores_writes : after (at8000 [0x8D, 0x00, 0x80] [] (·.setA 0x77))
    (fun t => t.cpuBus.openBus == 0x77 && hostPoke .cpu 0x8000 t == 0x8D) = true := by decide +kernel
/-- V4 (R240). -/
theorem test_v4_ram_mirror : after (at8000 [0x8D, 0x00, 0x08] [] (·.setA 0x5A)) (fun t => hostPoke .cpu 0 t == 0x5A) = true := by decide +kernel
/-- V6 (R205). -/
theorem test_v6_offset_past_device : (cpuRead 0xC000 { State.reset with
    devices := [{ kind := .rom, size := 0x4000, mirror := 0x4000, valid := true, pokeable := true, cells := [] }]
    cpuBus := { AddressSpace.cpuPowerUp with reads := [{ device := 0, base := 0x8000, size := 0x8000 }] } }).2.faulted = true := by decide +kernel
/-- V9 (R210, R211). -/
theorem test_v9_invalid_device : (let s := (State.reset.setValid 0 false).setCpuBus { AddressSpace.cpuPowerUp with openBus := 0x12 }
    (hostRead 0x0005 s).1 == 0x12 && (hostWrite 0x0005 0x34 s).cpuBus.openBus == 0x34
      && (hostWrite 0x0005 0x34 s).devices == s.devices) = true := by decide +kernel

/-! ## Addressing modes and cycle counts (V20 to V32) -/

/-- V20 (R430). -/
theorem test_v20_zero_page_wrap : afterIn (at8000 [0xB5, 0xF0] [(0x0010, 0x5C)] (·.setX 0x20)) 4 (fun t => t.cpu.a == 0x5C) = true := by decide +kernel
/-- V22 (R433). -/
theorem test_v22_address_wrap : afterIn (at8000 [0x9D, 0xFF, 0xFF] [] fun c => (c.setX 1).setA 0x66) 5
    (fun t => hostPoke .cpu 0 t == 0x66) = true := by decide +kernel
/-- V26 (R440). -/
theorem test_v26_pointer_wrap : afterIn (at8000 [0xA1, 0xFF] [(0x00FF, 0x34), (0x0000, 0x12), (0x1234, 0x99)]) 6
    (fun t => t.cpu.a == 0x99) = true := by decide +kernel
/-- V27 (R441). -/
theorem test_v27_indirect_indexed_page : afterIn (at8000 [0xB1, 0x20] [(0x0020, 0xF0), (0x0021, 0x12), (0x1310, 0x77)] (·.setY 0x20)) 6
    (fun t => t.cpu.a == 0x77) = true := by decide +kernel
/-- V28 (R441). -/
theorem test_v28_indirect_indexed : afterIn (at8000 [0xB1, 0x20] [(0x0020, 0xF0), (0x0021, 0x12), (0x12FF, 0x78)] (·.setY 0x0F)) 5
    (fun t => t.cpu.a == 0x78) = true := by decide +kernel
/-- V29 (R442). -/
theorem test_v29_indirect_indexed_store : afterIn (at8000 [0x91, 0x20] [(0x0020, 0xF0), (0x0021, 0x12)] fun c => (c.setY 0x0F).setA 0x21) 6
    (fun t => hostPoke .cpu 0x12FF t == 0x21) = true := by decide +kernel
/-- V24 (R433, R1521): both accesses step `v`. -/
theorem test_v24_register_dummy_read : after (at8000 [0x9D, 0x00, 0x20] [] (·.setX 7)) (fun t => t.video.ppu.v == 2) = true := by decide +kernel
/-- V31 (R433). -/
theorem test_v31_inc_indexed : afterIn (at8000 [0xFE, 0x00, 0x02] [(0x0201, 0xFF)] (·.setX 1)) 7
    (fun t => hostPoke .cpu 0x0201 t == 0 && t.cpu.p.z && !t.cpu.p.n) = true := by decide +kernel

/-! ## Loads, transfers and the stack (V33 to V39) -/

/-- V33 (R501). -/
theorem test_v33_lda_zero : after (at8000 [0xA9, 0x00] [] (·.setA 5)) (fun t => t.cpu.a == 0 && t.cpu.p.z && !t.cpu.p.n) = true := by decide +kernel
/-- V35 (R512). -/
theorem test_v35_txs_no_flags : after (at8000 [0x9A] [] (·.setS 5)) (fun t => t.cpu.s == 0 && !t.cpu.p.z) = true := by decide +kernel
/-- V37 (R513, R102). -/
theorem test_v37_pha_wraps : afterIn (at8000 [0x48] [] fun c => (c.setS 0).setA 0x42) 3
    (fun t => hostPoke .cpu 0x0100 t == 0x42 && t.cpu.s == 0xFF) = true := by decide +kernel
/-- V38 (R515). -/
theorem test_v38_pla_wraps : afterIn (at8000 [0x68] [(0x0100, 0x80)] (·.setS 0xFF)) 4
    (fun t => t.cpu.a == 0x80 && t.cpu.p.n && t.cpu.s == 0) = true := by decide +kernel
/-- V39 (R514). -/
theorem test_v39_php : after (at8000 [0x08] [] fun c => (c.setS 0xFF).setP (Flags.ofByte 0x05))
    (fun t => hostPoke .cpu 0x01FF t == 0x35) = true := by decide +kernel
/-- V39a (R516). -/
theorem test_v39a_plp : after (at8000 [0x28] [(0x0100, 0xFF)] (·.setS 0xFF))
    (fun t => t.cpu.p == { c := true, z := true, i := true, d := true, v := true, n := true } && t.cpu.irqInhibit) = true := by decide +kernel

/-! ## Arithmetic (V44 to V59) -/

/-- V44 (R601). -/
theorem test_v44_adc : after (at8000 [0x69, 0x50] [] fun c => c.setA 0x50)
    (fun t => t.cpu.a == 0xA0 && czvn t == (false, false, true, true)) = true := by decide +kernel
/-- V47 (R601). -/
theorem test_v47_adc : after (at8000 [0x69, 0x80] [] fun c => c.setA 0x80)
    (fun t => t.cpu.a == 0x00 && czvn t == (true, true, true, false)) = true := by decide +kernel
/-- V49 (R605). -/
theorem test_v49_sbc : after (at8000 [0xE9, 0xF0] [] fun c => flagC (c.setA 0x50))
    (fun t => t.cpu.a == 0x60 && czvn t == (false, false, false, false)) = true := by decide +kernel
/-- V52 (R605). -/
theorem test_v52_sbc : after (at8000 [0xE9, 0x01] [] fun c => flagC (c.setA 0x80))
    (fun t => t.cpu.a == 0x7F && czvn t == (true, false, true, false)) = true := by decide +kernel
/-- V54 (R10). -/
theorem test_v54_decimal_flag_ignored : afterIn (at8000 [0x69, 0x01] [] fun c => (c.setA 0x09).mapP fun p => { p with d := true }) 2
    (fun t => t.cpu.a == 0x0A) = true := by decide +kernel
/-- V55 (R603). -/
theorem test_v55_dec_add : ((decAdd 0x09 0x01 false).r, (decAdd 0x09 0x01 false).c) = (0x10, false) := by decide
/-- V56 (R603). -/
theorem test_v56_dec_add : decAdd 0x99 0x01 false = { r := 0x00, c := true, v := false, n := true, z := false } := by decide
/-- V57 (R606). -/
theorem test_v57_dec_sub : decSub 0x00 0x01 true = 0x99 := by decide
/-- V59b (R610). -/
theorem test_v59b_bit : after (at8000 [0x24, 0x10] [(0x0010, 0xC0)] (·.setA 1))
    (fun t => t.cpu.a == 1 && t.cpu.p.z && t.cpu.p.v && t.cpu.p.n) = true := by decide +kernel
/-- V59d (R612). -/
theorem test_v59d_cmp : after (at8000 [0xC9, 0x01]) (fun t => !t.cpu.p.c && !t.cpu.p.z && t.cpu.p.n) = true := by decide +kernel
/-- V59m (R624). -/
theorem test_v59m_ror : after (at8000 [0x6A] [] fun c => flagC (c.setA 1)) (fun t => t.cpu.a == 0x80 && t.cpu.p.c && t.cpu.p.n) = true := by decide +kernel
/-- V30 (R421, R621). -/
theorem test_v30_asl : afterIn (at8000 [0x06, 0x10] [(0x0010, 0x81)]) 5
    (fun t => hostPoke .cpu 0x10 t == 0x02 && t.cpu.p.c) = true := by decide +kernel

/-! ## Control flow (V40 to V43) -/

/-- V40 (R701). -/
theorem test_v40_branch : afterIn (at8000 [0x10, 0x10]) 3 (fun t => t.cpu.pc == 0x8012) = true := by decide +kernel
/-- V41 (R702). -/
theorem test_v41_not_taken : afterIn (at8000 [0x30, 0x10]) 2 (fun t => t.cpu.pc == 0x8002) = true := by decide +kernel
/-- V42 (R450, R707). -/
theorem test_v42_branch_page : afterIn (machine 0x80FD [0xD0, 0x05] [] id) 4 (fun t => t.cpu.pc == 0x8104) = true := by decide +kernel
/-- V43 (R450, R708). -/
theorem test_v43_branch_back : afterIn (machine 0x8100 [0xF0, 0x80] [] (·.mapP fun p => { p with z := true })) 4
    (fun t => t.cpu.pc == 0x8082) = true := by decide +kernel
/-- V43b (R711). -/
theorem test_v43b_indirect_bug : afterIn (at8000 [0x6C, 0xFF, 0x02] [(0x02FF, 0x34), (0x0200, 0x12), (0x0300, 0x56)]) 5
    (fun t => t.cpu.pc == 0x1234) = true := by decide +kernel
/-- V43c (R712). -/
theorem test_v43c_jsr : afterIn (at8000 [0x20, 0x00, 0x90] [] (·.setS 0xFD)) 6
    (fun t => t.cpu.pc == 0x9000 && t.cpu.s == 0xFB && hostPoke .cpu 0x01FD t == 0x80 && hostPoke .cpu 0x01FC t == 2) = true := by decide +kernel
/-- V43d (R713). -/
theorem test_v43d_rts : afterIn (machine 0x9000 [0x60] [(0x01FC, 0x02), (0x01FD, 0x80)] (·.setS 0xFB)) 6
    (fun t => t.cpu.pc == 0x8003 && t.cpu.s == 0xFD) = true := by decide +kernel
/-- V43e (R715). -/
theorem test_v43e_rti : afterIn (at8000 [0x40] [(0x01F1, 0x20), (0x01F2, 0x02), (0x01F3, 0x80)] (·.setS 0xF0)) 6
    (fun t => t.cpu.pc == 0x8002 && t.cpu.s == 0xF3 && t.cpu.p == Flags.ofByte 0) = true := by decide +kernel
/-- V43f (R1020). -/
theorem test_v43f_irq_after_nop : after ((at8000 [0xEA] [] flagsClear).raiseIrq 3) (fun t => t.cpu.phase == .interrupt .irq) = true := by decide +kernel
/-- V43g (R722). -/
theorem test_v43g_no_irq_after_cli : after ((at8000 [0x58]).raiseIrq 3) (fun t => t.cpu.phase == .fetch && t.cpu.irqInhibit) = true := by decide +kernel
/-- R714, R105. -/
theorem test_brk_frame : afterIn (machine 0x8123 [0x00, 0x55] [(0xFFFE, 0x00), (0xFFFF, 0x90)] fun c => (c.setS 0xFD).setP (Flags.ofByte 1)) 7
    (fun t => t.cpu.pc == 0x9000 && t.cpu.p.i && t.cpu.s == 0xFA && hostPoke .cpu 0x01FD t == 0x81
      && hostPoke .cpu 0x01FC t == 0x25 && hostPoke .cpu 0x01FB t == 0x31) = true := by decide +kernel

/-! ## Undocumented opcodes (V90 to V105) -/

/-- V90 (R801). -/
theorem test_v90_slo : afterIn (at8000 [0x07, 0x10] [(0x0010, 0x81)] (·.setA 1)) 5
    (fun t => hostPoke .cpu 0x10 t == 2 && t.cpu.a == 3 && t.cpu.p.c) = true := by decide +kernel
/-- V91 (R807). -/
theorem test_v91_dcp : after (at8000 [0xC7, 0x10] [(0x0010, 0x06)] (·.setA 5))
    (fun t => hostPoke .cpu 0x10 t == 5 && czvn t == (true, true, false, false)) = true := by decide +kernel
/-- V92 (R808). -/
theorem test_v92_isc : after (at8000 [0xE7, 0x10] [(0x0010, 0x04)] fun c => flagC (c.setA 0x10))
    (fun t => hostPoke .cpu 0x10 t == 5 && t.cpu.a == 0x0B && t.cpu.p.c) = true := by decide +kernel
/-- V93 (R805). -/
theorem test_v93_sax : afterIn (at8000 [0x87, 0x10] [] fun c => (c.setA 0xF0).setX 0x3C) 3 (fun t => hostPoke .cpu 0x10 t == 0x30) = true := by decide +kernel
/-- V95 (R814). -/
theorem test_v95_las : after (at8000 [0xBB, 0x10, 0x00] [(0x0010, 0x3F)] (·.setS 0xF0))
    (fun t => t.cpu.a == 0x30 && t.cpu.x == 0x30 && t.cpu.s == 0x30) = true := by decide +kernel
/-- V98 (R811). -/
theorem test_v98_arr : after (at8000 [0x6B, 0xFF] [] fun c => flagC (c.setA 0xFF))
    (fun t => t.cpu.a == 0xFF && czvn t == (true, false, false, true)) = true := by decide +kernel
/-- V99 (R812). -/
theorem test_v99_sbx : after (at8000 [0xCB, 0x10] [] fun c => (c.setA 0xF0).setX 0x3F) (fun t => t.cpu.x == 0x20 && t.cpu.p.c) = true := by decide +kernel
/-- V103 (R821). -/
theorem test_v103_jam : afterIn (at8000 [0x02]) 2
    (fun t => t.cpu.pc == 0x8001 && t.diagnostics == [{ pc := 0x8000, opcode := 0x02 }]) = true := by decide +kernel
/-- V105 (R824). -/
theorem test_v105_sha : (let s := at8000 [0x9F, 0x00, 0x02] [] fun c => (c.setA 0xFF).setX 0xFF
    afterIn s 5 (fun t => t.cpu.pc == 0x8003 && t.devices == s.devices)) = true := by decide +kernel

/-! ## Interrupts and reset (V110 to V116) -/

/-- V110 (R1040). -/
theorem test_v110_reset_sequence : afterIn ((State.reset.load 0xFFFC 0x00).load 0xFFFD 0xC0) 7
    (fun t => t.cpu.s == 0xFD && t.cpu.p.i && t.cpu.pc == 0xC000 && t.cpu.phase == .fetch) = true := by decide +kernel
/-- V112 (R1030). -/
theorem test_v112_irq : afterIn ((machine 0x8123 [] [] fun c => (c.setS 0xFD).setP (Flags.ofByte 1)).mapCpu (·.enter (.interrupt .irq))) 7
    (fun t => hostPoke .cpu 0x01FD t == 0x81 && hostPoke .cpu 0x01FC t == 0x23 && hostPoke .cpu 0x01FB t == 0x21
      && t.cpu.s == 0xFA && t.cpu.p.i && t.cpu.p.c) = true := by decide +kernel
/-- V115 (R1021). -/
theorem test_v115_nmi_first : (let s := (at8000 [0xEA] [] flagsClear).raiseIrq 3
    after (s.setVideo { s.video with nmi := { sources := [], edgePending := true } })
      (fun t => t.cpu.phase == .interrupt .nmi && !t.video.nmi.edgePending)) = true := by decide +kernel

/-! ## Scheduler, DMA and PPU (V60 to V84, V119) -/

/-- V119 (R1110). -/
theorem test_v119_tick : (let t := ticks 12 State.reset; t.video.ppu.dot == 3 && t.sched.cpuCycles == 1 && t.cpu.cycle == 2) = true := by decide +kernel
/-- V61 (R1240): an even activation index stalls 513. -/
theorem test_v61_dma_stall : (let s := at8000 [0x8D, 0x14, 0x40]
    after (s.setSched { s.sched with cpuCycles := 10 }) (fun t => t.sched.cpuCycles == 14 && t.sched.cpu.skip == 513)) = true := by decide +kernel
/-- The video side at power-up with a change of the PPU. -/
def video (f : Ppu → Ppu) : Video := State.reset.video.mapPpu f

/-- The devices of the reset state with bytes in the nametable RAM. -/
def devices (cells : Cells 8) : List Device := referenceDevices.modify 7 fun d => { d with cells := cells }

/-- V65 (R1216). -/
theorem test_v65_scroll : (let a := (ppuRegisterWrite 5 0x7D [] (video id)).2
    let b := (ppuRegisterWrite 5 0x5E [] a).2
    a.ppu.t == 0x000F && a.ppu.x == 5 && a.ppu.w && b.ppu.t == 0x616F && !b.ppu.w) = true := by decide +kernel
/-- V66 (R1216). -/
theorem test_v66_addr : (let a := (ppuRegisterWrite 6 0x3D [] (video fun p => { p with t := 0x616F })).2
    let b := (ppuRegisterWrite 6 0xF0 [] a).2
    a.ppu.t == 0x3D6F && b.ppu.t == 0x3DF0 && b.ppu.v == 0x3DF0 && !b.ppu.w) = true := by decide +kernel
/-- V68 (R1217). -/
theorem test_v68_data_buffer : (let a := ppuRegisterRead 7 (devices [(0, 0x55), (1, 0x66)]) (video fun p => { p with v := 0x2000, scanline := 240 })
    let b := ppuRegisterRead 7 (devices [(0, 0x55), (1, 0x66)]) a.2
    a.1 == 0 && b.1 == 0x55 && b.2.ppu.readBuffer == 0x66 && b.2.ppu.v == 0x2002) = true := by decide +kernel
/-- V69b (R1218). -/
theorem test_v69b_palette_mirror : (let p := Ppu.powerUp.setPalette 0x3F10 0x2A
    p.paletteAt 0x3F00 == 0x2A && p.paletteAt 0x3F04 == 0 && p.palette[0] == 0x2A) = true := by decide +kernel
/-- V69d (R1214). -/
theorem test_v69d_oam_mask : (let a := (ppuRegisterWrite 4 0xFF [] (video fun p => { p with oamAddr := 2 })).2
    a.ppu.oamAt 2 == 0xE3 && a.ppu.oamAddr == 3) = true := by decide +kernel
/-- V69h (R1212, R1219). -/
theorem test_v69h_status : (let a := ppuRegisterRead 2 [] (video fun p => { p with vbl := true, sprOverflow := true, ioLatch := 0x1F })
    a.1 == 0xBF && !a.2.ppu.vbl && a.2.ppu.ioLatch == 0xBF) = true := by decide +kernel
/-- V69i (R1210, R1260). -/
theorem test_v69i_nmi_on_enable : (let a := (ppuRegisterWrite 0 0x80 [] (video fun p => { p with vbl := true })).2
    a.ppu.nmiOut && a.nmi.edgePending) = true := by decide +kernel
/-- V70, V71 and V72 (R1331). -/
theorem test_v70_y_increment : (yIncrement 0x73A0, yIncrement 0x73E0, yIncrement 0x73C0) = (0x0800, 0x0000, 0x03E0) := by
  decide
/-- V73 and V73a (R1332, R1333). -/
theorem test_v73_copies : (scrolledV 0 257 0x0412 0x0C63, scrolledV 261 280 0x7BE0 0x0C63) = (0x0C72, 0x7FE3) := by decide
/-- V73b (R1320). -/
theorem test_v73b_fetch_addresses : (ntAddr 0x0C63, atAddr 0x0C63, atShift 0x0C63) = (0x2C63, 0x2FC0, 6) := by decide
/-- V76c (R1441). -/
theorem test_v76c_grey : ((ppuDot (devices []) (video fun p => { (p.setPalette 0 0x2A) with mask := 0x19, dot := 9 })).ppu.framebuffer
    == [(8, 0x20)]) = true := by decide +kernel
/-- V77 (R1211). -/
theorem test_v77_mask_ignored : (let a := (ppuRegisterWrite 1 0x18 [] (video fun p => { p with scanline := 261, dot := 338 })).2
    a.ppu.mask == 0 && a.ppu.ioLatch == 0x18) = true := by decide +kernel
/-- V81 (R1212, R1400). -/
theorem test_v81_race : (let p := video fun p => { p with scanline := 241, dot := 1, ctrl := 0x80 }
    let a := ppuDot [] (ppuRegisterRead 2 [] p).2
    !a.ppu.vbl && !a.nmi.edgePending) = true := by decide +kernel
/-- V80 (R1260). -/
theorem test_v80_nmi : (let p := ppuDot [] (ppuDot [] (ppuDot [] (video fun p => { p with scanline := 241, dot := 1, ctrl := 0x80 })))
    p.ppu.vbl && p.nmi.edgePending) = true := by decide +kernel

/-! ## Every statement with hypotheses has a state and operands that meet them -/

theorem witness_decode_answers : decode [0x9D, 0x00, 0x02, 0xEA] = .ok (.staAbsx 0x0200, [0xEA]) := by decide
/-- Exactly enough bytes, and one too few. -/
theorem witness_every_opcode : lengthOf 0xAD = [0x00, 0x02].length + 1 ∧ [0x00].length + 1 < lengthOf 0xAD := by decide
theorem witness_safe_step : State.reset.safe = true ∧ after State.reset (fun _ => true) = true := by decide +kernel
theorem witness_ready : State.reset.ready = true ∧ State.reset.sched.wf = true ∧ State.reset.cpu.atBoundary = true := by
  decide +kernel
/-- A ready machine that a program has reached, between two instructions. -/
theorem witness_ready_program : (at8000 [0xE6, 0x10]).safe = true ∧ after (at8000 [0xE6, 0x10]) (·.safe) = true := by
  decide +kernel
/-- A ready machine that no run reaches: a free CPU, mid-line PPU, asserted lines. -/
def wild : State :=
  (((at8000 [0xEA] [] fun c => ((c.setS 0x03).setX 0xF7).setP (Flags.ofByte 0xC3)).raiseIrq 7).setSched
    { Sched.powerUp with cpu := { divisor := 12, countdown := 5, skip := 3 }, cpuCycles := 9 }).setVideo
    ((video fun p => { p with scanline := 100, dot := 77, mask := 0x1E, w := true }).setNmi
      { sources := [], edgePending := true })
theorem witness_wild : wild.safe = true := by decide +kernel

/-- Instructions of one, two and three bytes, fetched from memory. -/
theorem witness_step_runs :
    ([(machine 0x8000 [0xAA] [] id, [0xAA], Instr.tax), (machine 0x0000 [0xE6, 0x10] [] id, [0xE6, 0x10], .incZp 0x10),
      (machine 0xFFFE [0x4C, 0x34] [(0x0000, 0x12)] id, [0x4C, 0x34, 0x12], .jmpAbs 0x1234)] :
      List (State × List Byte × Instr)).all
      (fun q => q.1.faulted == false && q.1.cpu.phase == .fetch && decode q.2.1 == .ok (q.2.2, [])
        && (List.range q.2.1.length).all fun k => q.1.memoryByte (q.1.cpu.pc + BitVec.ofNat 16 k) == q.2.1[k]?) = true := by
  decide +kernel

/-- The reference machine, its OAMDMA register included: stores beside it and pushes are admitted, a store to it is not. -/
theorem witness_cycles : (at8000 [0xEA]).ready = true ∧ (at8000 [0xEA]).sched.wf = true ∧
    (at8000 [0xEA]).sched.cpu.skip = 0 ∧ (at8000 [0xEA]).sched.cpu.countdown = Config.cpuDiv ∧
    ([Instr.nop, .pha, .php, .jsrAbs 0, .brk 0, .staAbs 0x4013, .incAbs 0x4015, .aslAcc, .tasAbsy 0x4014, .staIzx 0] : List Instr).all
      (fun i => (writeAddresses i (at8000 [0xEA])).all fun a =>
        !(resolve (at8000 [0xEA]).cpuBus.writes (at8000 [0xEA]).devices a.toNat).isOamDma) = true ∧
    writeAddresses (.staAbs 0x4014) (at8000 [0xEA]) = [0x4014] := by decide +kernel

theorem witness_reset_sequence : State.reset.ready = true ∧ State.reset.cpu.phase = .reset ∧ State.reset.cpu.cycle = 1 := by
  decide +kernel
theorem witness_interrupt_sequence (k : Interrupt) : (wild.mapCpu (·.enter (.interrupt k))).ready = true ∧
    (wild.mapCpu (·.enter (.interrupt k))).cpu.phase = .interrupt k ∧
    (wild.mapCpu (·.enter (.interrupt k))).cpu.cycle = 1 := by
  cases k <;> decide +kernel
/-- The poll's three cases: an edge; no edge, IRQ, I clear; no edge and IRQ masked. -/
theorem witness_poll : wild.video.nmi.edgePending = true ∧
    (let s := (at8000 [] [] flagsClear).raiseIrq 0
     s.video.nmi.edgePending = false ∧ s.irq.sources ≠ [] ∧ s.cpu.p.i = false) ∧
    (State.reset.video.nmi.edgePending = false ∧ State.reset.irq.sources = [] ∧ State.reset.cpu.p.i = true) := by
  decide +kernel
theorem witness_lines : rising [0, 3, 7] = true ∧ 3 ∈ [0, 3, 7] ∧ 4 ∉ [0, 3, 7] := by decide

/-- Branch targets at the last byte of the page of the next instruction and at the first of the next page. -/
theorem witness_branch : (machine 0x80F0 [] [] id).ready = true ∧
    hiByte ((0x80F0 : Word) + (0x0F : Byte).signExtend 16) = hiByte 0x80F0 ∧
    hiByte ((0x80F0 : Word) + (0x10 : Byte).signExtend 16) ≠ hiByte 0x80F0 ∧
    (!wild.cpu.p.n) = false ∧ wild.cpu.p.n = true := by decide +kernel

theorem witness_decimal_digits : lowDigit 0x99 ≤ 9 ∧ highDigit 0x99 ≤ 9 ∧ lowDigit 0x00 ≤ 9 ∧ highDigit 0x00 ≤ 9 := by decide
theorem witness_fallback : State.reset.ready = true ∧ Instr.jam02.status = .fallback ∧ (Instr.shaAbsy 0).status = .fallback :=
  by decide +kernel

/-- RAM written and read through mirrors; a write that stores nothing, and one that stores. -/
theorem witness_ram : State.reset.memoryWf = true ∧
    (∃ d, resolve State.reset.cpuBus.writes State.reset.devices 0x1FFF = .hit 0 d 0x1FFF ∧
      resolve State.reset.cpuBus.reads State.reset.devices 0x1FFF = .hit 0 d 0x1FFF ∧ d.kind = .ram) ∧
    State.reset.storesTo 0x1FFF = some (0, 0x7FF) ∧ State.reset.storesTo 0x8000 = none := by
  refine ⟨by decide, ⟨_, rfl, rfl, rfl⟩, by decide, by decide⟩
/-- A PPUDATA write stores to the PPU space up to 0x3EFF and not from 0x3F00. -/
theorem witness_ppudata_store :
    (State.reset.setVideo (video fun p => { p with v := 0x3EFF })).storesTo 0x2007 = some (7, 0x6FF) ∧
    (State.reset.setVideo (video fun p => { p with v := 0x3F00 })).storesTo 0x2007 = none := by decide
/-- Absent addresses, hits, and a write that is not OAMDMA. -/
theorem witness_open_bus : resolve State.reset.cpuBus.reads State.reset.devices 0x4018 = .absent ∧
    resolve State.reset.cpuBus.writes State.reset.devices 0x8000 = .absent ∧
    (∃ d, resolve State.reset.cpuBus.reads State.reset.devices 0x8000 = .hit 3 d 0 ∧ d.kind ≠ .oamDma) ∧
    (resolve State.reset.cpuBus.writes State.reset.devices 0x4014).isOamDma = true ∧
    (resolve State.reset.cpuBus.writes State.reset.devices 0x4013).isOamDma = false := by
  refine ⟨by decide, by decide, ⟨_, rfl, by decide⟩, by decide, by decide⟩
theorem witness_poke : (∃ d, resolve State.reset.cpuBus.reads State.reset.devices 0x2002 = .hit 1 d 2 ∧ d.pokeable = true) ∧
    (∃ d, resolve State.reset.cpuBus.reads State.reset.devices 0x4015 = .hit 5 d 0 ∧ d.pokeable = false) ∧
    resolve State.reset.cpuBus.reads State.reset.devices 0x5000 = .absent := by
  refine ⟨⟨_, rfl, rfl⟩, ⟨_, rfl, rfl⟩, by decide⟩

/-- A port larger than its device, on both lists: its last good offset, and one past. -/
def tooWide : State :=
  { State.reset with
    cpuBus := { AddressSpace.cpuPowerUp with
      reads := [{ device := 0, base := 0, size := 0x4000 }], writes := [{ device := 0, base := 0, size := 0x4000 }] } }
theorem witness_past_device : resolve tooWide.cpuBus.reads tooWide.devices 0x2000 = .pastDevice ∧
    resolve tooWide.cpuBus.writes tooWide.devices 0x2000 = .pastDevice ∧
    resolve tooWide.cpuBus.reads tooWide.devices 0x1FFF ≠ .pastDevice ∧
    (cpuWrite 0x2000 0 tooWide).faulted = true ∧ State.reset.busFits = true := by decide +kernel

/-- A range that ends at the space's end, one past it, an overlap and a free range; the write list alone is free. -/
theorem witness_ports : (0xFFFF : Nat) + 1 ≤ 65536 ∧ 65536 < (0xFFFF : Nat) + 2 ∧
    (∃ q ∈ AddressSpace.cpuPowerUp.reads, ∃ a, q.contains a = true ∧ 0x7FFF ≤ a ∧ a < 0x7FFF + 2) ∧
    (∀ q ∈ AddressSpace.cpuPowerUp.reads, ¬ max q.base 0x5000 < min (q.base + q.size) 0x6000) := by
  refine ⟨by decide, by decide, ⟨{ device := 3, base := 0x8000, size := 0x8000 }, by decide, 0x8000, by decide⟩, by decide⟩
/-- Lists without overlapping ports, and an address that one of them holds. -/
theorem witness_apart : (AddressSpace.cpuPowerUp.reads.Pairwise fun q r => ¬ q.overlaps r = true) ∧
    (AddressSpace.cpuPowerUp.writes.Pairwise fun q r => ¬ q.overlaps r = true) ∧
    ({ device := 0, base := 0x0000, size := 0x2000 } : Port).contains 0x1FFF = true ∧
    (∀ q ∈ AddressSpace.cpuPowerUp.reads, ∀ r ∈ AddressSpace.cpuPowerUp.reads, q.overlaps r = false →
      ∀ a, ¬ (q.contains a = true ∧ r.contains a = true)) := by
  refine ⟨by decide, by decide, by decide, fun q _ r _ h a hc => ?_⟩
  simp only [Port.overlaps, Port.contains, decide_eq_false_iff_not, Bool.and_eq_true, decide_eq_true_eq] at h hc
  omega
theorem witness_canonical : Memory.wf ([(3, 1), (7, 0xFF)] : Cells 8) = true := by decide

theorem witness_nmi_out : (video fun p => { p with nmiOut := true }).ppu.nmiOut = true ∧
    ({ video (fun p => { p with nmiOut := true, vbl := true, ctrl := 0x80 }) with
        nmi := { sources := [0], edgePending := false } } : Video).nmiWf = true ∧ State.reset.video.nmiWf = true := by decide
theorem witness_race : (let vd := video fun p => { p with scanline := 241, dot := 1, ctrl := 0x80 }
    vd.ppu.scanline = 241 ∧ vd.ppu.dot = 1 ∧ vd.ppu.ctrl.getLsbD 7 = true ∧ vd.ppu.vbl = false ∧
    vd.ppu.vblSuppress = false ∧ vd.ppu.nmiOut = false ∧ vd.nmi = { sources := [], edgePending := false }) := by decide
/-- First and second writes, and the two sides of the palette boundary. -/
theorem witness_register_writes : (video id).ppu.w = false ∧ wild.video.ppu.w = true ∧
    (0x3EFF : BitVec 15).toNat % 16384 < 0x3F00 ∧ 0x3F00 ≤ (0x3F00 : BitVec 15).toNat % 16384 := by decide +kernel
theorem witness_palette : (0x3F10 % 4 = 0 ∧ 0x3F00 % 4 = 0 ∧ 0x3F10 % 16 = 0x3F00 % 16) ∧ ¬ (0x3F11 % 32 = 0x3F01 % 32) ∧
    0x3F11 % 4 ≠ 0 := by decide
theorem witness_dma_page (i : Byte) : State.reset.memoryByte (joinBytes 0x02 i) = some 0 := by
  revert i
  decide +kernel
theorem witness_scroll : (0x041F : BitVec 15) &&& 0x73E0 = 0 ∧ (0x7FFF : BitVec 15) &&& 0x73E0 = 0x73E0 := by decide
/-- The positions where the clauses of R1310 meet. -/
theorem witness_positions : (let p : Ppu := { Ppu.powerUp with scanline := 261, dot := 339, oddFrame := true, mask := 0x08 }
    p.scanline = 261 ∧ p.dot = 339 ∧ p.oddFrame = true ∧ p.renderingEnabled = true) ∧
    (let p : Ppu := { Ppu.powerUp with scanline := 261, dot := 339, mask := 0x08 }
     p.scanline ≤ 261 ∧ p.dot < 340 ∧ p.oddFrame = false) ∧
    (let p : Ppu := { Ppu.powerUp with scanline := 260, dot := 340 }
     p.dot = 340 ∧ p.scanline < 261 ∧ p.renderingEnabled = false) ∧
    (let p : Ppu := { Ppu.powerUp with scanline := 261, dot := 340 }
     p.dot = 340 ∧ p.scanline = 261) := by decide
/-- Visible dots at both ends of a line with rendering disabled, and a dot outside. -/
theorem witness_disabled : (video id).ppu.mask.getLsbD 3 = false ∧ (video id).ppu.mask.getLsbD 4 = false ∧
    [1, 256].all (fun d => (ppuDot [] (video fun p => { (p.setPalette 0 0x16) with dot := d })).ppu.framebuffer
      == [(d - 1, 0x16)]) = true ∧
    [0, 257].all (fun d => (ppuDot [] (video fun p => { (p.setPalette 0 0x16) with dot := d })).ppu.framebuffer == [])
      = true := by decide +kernel
/-- A dot in which sprite 0 hits, and one in which the overflow flag rises. -/
theorem witness_sprite_flags :
    (let hit := video fun p => { p with
       mask := 0x1E, dot := 9, spr0Line := true, sprCountLine := 1, bgLo := 0xFFFF
       units := p.units.set 0 { lo := 0x80, hi := 0, attr := 0, x := 8 } }
     hit.ppu.spr0Hit = false ∧ (ppuDot (devices []) hit).ppu.spr0Hit = true) ∧
    (let full := video fun p => { p with
       mask := 0x1E, dot := 130, evalN := 8, evalFound := 8, evalPhase := .overflow }
     full.ppu.sprOverflow = false ∧ (ppuDot (devices []) full).ppu.sprOverflow = true) := by decide +kernel
/-- A rendering PPU at a dot of a line. -/
def rendering (l d : Nat) : Video := video fun p => { p with mask := 0x18, scanline := l, dot := d, evalFound := 3, sprCountLine := 2 }
/-- The dots where the clauses of the timeline meet (R1302), on a visible and on the pre-render line. -/
theorem witness_timeline : ([0, 1, 2, 4, 6, 8, 9, 255, 256, 257, 258, 279, 280, 304, 305, 320, 321, 322, 328, 329, 336, 337,
      338, 339, 340].all fun d =>
        (rendering 239 d).ppu.mask.getLsbD 3 && decide ((rendering 239 d).ppu.dot ≤ 340)
          && decide ((rendering 239 d).ppu.scanline ≤ 239) && decide ((rendering 261 d).ppu.scanline = 261)) = true ∧
    (ppuDot (devices [(0, 0x5A)]) (rendering 0 2)).ppu.ntByte = 0x5A := by decide +kernel
/-- A line that evaluation can start on, with more than eight sprites in range of it. -/
theorem witness_evaluation : (rendering 0 1).ppu.scanline ≤ 239 ∧ (rendering 0 1).ppu.dot = 1 ∧
    (rendering 0 1).ppu.mask.getLsbD 3 = true ∧
    ((List.range 64).filter fun n => decide (((rendering 0 1).ppu.oamByte (4 * n)).toNat ≤ 0))[7]? = some 7 := by decide +kernel
/-- The last dot of a unit that is not empty (unit 1 of 2) and of one that is (unit 2), and both sides of dot 257. -/
theorem witness_sprite_fetch : (272 - 257) / 8 = 1 ∧ (272 - 257) % 8 = 7 ∧ ¬ (rendering 0 272).ppu.sprCountLine ≤ 1 ∧
    (280 - 257) / 8 = 2 ∧ (280 - 257) % 8 = 7 ∧ (rendering 0 280).ppu.sprCountLine ≤ 2 ∧
    (ppuDot (devices []) (rendering 0 257)).ppu.sprCountLine = 3 ∧
    (ppuDot (devices []) (rendering 261 257)).ppu.sprCountLine = 0 := by decide +kernel
/-- Pixels without an opaque sprite and with one, in front and behind, at the columns where the left clip ends. -/
theorem witness_pixel :
    (let sprite (attr : Byte) := video fun p => { ((p.setPalette 0x11 0x21).setPalette 0x03 0x12) with
       mask := 0x18, dot := 9, sprCountLine := 1, bgLo := 0xFFFF, bgHi := 0xFFFF
       units := p.units.set 0 { lo := 0x80, hi := 0, attr := attr, x := 8 } }
     (ppuDot (devices []) (sprite 0x00)).ppu.framebuffer = [(8, 0x21)] ∧
     (ppuDot (devices []) (sprite 0x20)).ppu.framebuffer = [(8, 0x12)]) ∧
    (let clipped := video fun p => { (p.setPalette 0 0x0F) with mask := 0x18, dot := 8, bgLo := 0xFFFF }
     (ppuDot (devices []) clipped).ppu.framebuffer = [(7, 0x0F)]) := by decide +kernel
/-- Ports that fit and canonical memories, with a RAM and a ROM device. -/
theorem witness_power_cycle : State.reset.busFits = true ∧ State.reset.memoryWf = true ∧
    State.reset.devices[0]?.map (·.kind) = some .ram ∧ State.reset.devices[3]?.map (·.kind) = some .rom := by decide +kernel
theorem witness_receiver : 1 ≤ (Receiver.fresh 12).divisor ∧ (Receiver.fresh 12).countdown = (Receiver.fresh 12).divisor ∧
    (Receiver.fresh 12).skip = 0 ∧ 0 < ((Receiver.fresh 12).requestSkip 2).skip := by decide
/-- A pass without and one with a skipped activation. -/
theorem witness_pass : (at8000 [0xEA]).ready = true ∧ (at8000 [0xEA]).sched.wf = true ∧
    (at8000 [0xEA]).sched.cpu.countdown = 12 ∧ (at8000 [0xEA]).sched.ppu.countdown = 4 ∧
    (at8000 [0xEA]).sched.cpu.skip = 0 ∧ 0 < ((at8000 [0xEA]).requestCpuSkip 1).sched.cpu.skip ∧
    ((at8000 [0xEA]).requestCpuSkip 1).sched.wf = true := by decide +kernel

end Sys2Proof.Tests
end

section
/-! PROOFS. What keeps a machine safe: `SafeKept`, which every activation, cycle, program and step establishes
(O6: R144 to R147, R205, R1003, R1101, R1260), and the two host resets (O59, O60, O5: R160, R1131, R1132). -/

namespace Sys2Proof.Machine

/-! ## Keeping a machine safe -/

/-- `t` keeps of `s` all that `safe` asks for: what `StateKept` says, and the receivers' ranges (R1101). -/
structure SafeKept (s t : State) : Prop where
  kept : StateKept s t
  sched : s.sched.wf = true → t.sched.wf = true

theorem SafeKept.refl (s : State) : SafeKept s s := ⟨StateKept.refl s, id⟩

theorem SafeKept.trans {s t u : State} (h : SafeKept s t) (k : SafeKept t u) : SafeKept s u :=
  ⟨h.kept.trans k.kept, k.sched ∘ h.sched⟩

/-- A change of the CPU's registers alone is no matter of safety. -/
theorem SafeKept.mapCpu {s t : State} (h : SafeKept s t) (f : Cpu → Cpu) : SafeKept s (t.mapCpu f) :=
  ⟨h.kept.mapCpu f, h.sched⟩

/-- `safe`, as what it says. -/
theorem safe_iff (s : State) : s.safe = true ↔ s.ready = true ∧ s.video.ppu.wf = true ∧ s.sched.wf = true ∧
    s.video.nmiWf = true ∧ rising s.irq.sources = true := by
  simp only [State.safe, Bool.and_eq_true, and_assoc]

theorem SafeKept.safe {s t : State} (h : SafeKept s t) (hs : s.safe = true) : t.safe = true := by
  obtain ⟨hready, hppu, hsched, hnmi, hirq⟩ := (safe_iff s).mp hs
  refine (safe_iff t).mpr ⟨h.kept.ready hready, h.kept.video.range hppu, h.sched hsched, h.kept.video.line hnmi, ?_⟩
  rw [h.kept.irq]
  exact hirq

/-! ## The receivers (R1101, R1120) -/

theorem receiver_wf_iff (r : Receiver) : r.wf = true ↔ 1 ≤ r.countdown ∧ r.countdown ≤ r.divisor := by
  simp only [Receiver.wf, Bool.and_eq_true, decide_eq_true_eq]

theorem sched_wf_iff (c : Sched) : c.wf = true ↔ c.cpu.wf = true ∧ c.ppu.wf = true ∧
    c.cpu.divisor = Config.cpuDiv ∧ c.ppu.divisor = Config.ppuDiv ∧ c.ppu.skip = 0 := by
  simp only [Sched.wf, Bool.and_eq_true, decide_eq_true_eq, and_assoc]

theorem receiver_fresh_wf {n : Nat} (h : 1 ≤ n) : (Receiver.fresh n).wf = true :=
  (receiver_wf_iff _).mpr ⟨h, Nat.le_refl n⟩

/-- Spending or not spending a skip is no matter of the countdown. -/
theorem activate_same (r : Receiver) : r.activate.1.divisor = r.divisor ∧ r.activate.1.countdown = r.countdown ∧
    r.activate.1.skip = r.skip - 1 := by
  unfold Receiver.activate
  split
  · rename_i h0
    exact ⟨rfl, rfl, by simp [h0]⟩
  · exact ⟨rfl, rfl, rfl⟩

/-- One master tick at a receiver: the countdown restarts from the divisor or goes down by one. -/
theorem deliver_cases (r : Receiver) : r.deliver.1.divisor = r.divisor ∧ r.deliver.1.skip ≤ r.skip ∧
    (r.countdown ≤ 1 ∧ r.deliver.1.countdown = r.divisor ∨
      1 < r.countdown ∧ r.deliver.1.countdown = r.countdown - 1) := by
  unfold Receiver.deliver Receiver.tick
  by_cases h : r.countdown ≤ 1
  · obtain ⟨hd, hc, hk⟩ := activate_same { r with countdown := r.divisor }
    simp only [if_pos h, ↓reduceIte]
    exact ⟨hd, hk ▸ Nat.sub_le _ _, .inl ⟨h, hc⟩⟩
  · simp only [if_neg h, Bool.false_eq_true, ↓reduceIte]
    exact ⟨trivial, Nat.le_refl _, .inr ⟨by omega, trivial⟩⟩

theorem deliver_wf {r : Receiver} (h : r.wf = true) : r.deliver.1.wf = true := by
  obtain ⟨hlo, hhi⟩ := (receiver_wf_iff r).mp h
  obtain ⟨hd, -, hc⟩ := deliver_cases r
  refine (receiver_wf_iff _).mpr ?_
  omega

theorem schedTick_wf {c : Sched} (h : c.wf = true) : c.tick.1.wf = true := by
  obtain ⟨hcpu, hppu, hdc, hdp, hskip⟩ := (sched_wf_iff c).mp h
  obtain ⟨hc, -, -⟩ := deliver_cases c.cpu
  obtain ⟨hp, hs, -⟩ := deliver_cases c.ppu
  exact (sched_wf_iff _).mpr ⟨deliver_wf hcpu, deliver_wf hppu, hc.trans hdc, hp.trans hdp,
    Nat.le_zero.mp (hskip ▸ hs)⟩

/-- The receivers' ranges do not speak of the CPU's skip. -/
theorem sched_wf_congr {c d : Sched} (hp : d.ppu = c.ppu) (hd : d.cpu.divisor = c.cpu.divisor)
    (hc : d.cpu.countdown = c.cpu.countdown) : d.wf = c.wf := by
  simp only [Sched.wf, Receiver.wf, hp, hd, hc]

/-! ## Ticks and bus accesses -/

theorem tickBeforeCpu_safeKept (s : State) : SafeKept s s.tickBeforeCpu.1 := ⟨tickBeforeCpu_kept s, schedTick_wf⟩

theorem awaitTicks_safeKept (n : Nat) (s : State) : SafeKept s (awaitTicks n s) := by
  induction n generalizing s with
  | zero => exact SafeKept.refl s
  | succ n ih =>
    simp only [awaitTicks]
    split
    · exact tickBeforeCpu_safeKept s
    · exact (tickBeforeCpu_safeKept s).trans (ih _)

theorem awaitCpu_safeKept (s : State) : SafeKept s s.awaitCpu := awaitTicks_safeKept _ s

theorem cpuRead_safeKept (a : Word) (s : State) : SafeKept s (cpuRead a s).2 := by
  obtain ⟨-, -, -, hsched, -⟩ := cpuRead_same a s
  exact ⟨cpuRead_kept a s, fun h => by rw [hsched]; exact h⟩

theorem cpuWrite_safeKept (a : Word) (v : Byte) (s : State) : SafeKept s (cpuWrite a v s) := by
  obtain ⟨-, -, -, -, hppu, -, hdiv, hcount⟩ := cpuWrite_same a v s
  exact ⟨cpuWrite_kept a v s, fun h => by rw [sched_wf_congr hppu hdiv hcount]; exact h⟩

/-! ## Cycles -/

/-- A cycle that keeps a machine safe. -/
def Cycle.KeepsSafe (c : Cycle) : Prop := ∀ s, SafeKept s (c s).1

/-- A list of such cycles. -/
def CyclesKeepSafe (cs : List Cycle) : Prop := ∀ c ∈ cs, Cycle.KeepsSafe c

@[simp] theorem cyclesKeepSafe_nil : CyclesKeepSafe [] := fun _ hc => absurd hc List.not_mem_nil

@[simp] theorem cyclesKeepSafe_cons (c : Cycle) (cs : List Cycle) :
    CyclesKeepSafe (c :: cs) ↔ Cycle.KeepsSafe c ∧ CyclesKeepSafe cs := List.forall_mem_cons

@[simp] theorem cyclesKeepSafe_append (cs ds : List Cycle) :
    CyclesKeepSafe (cs ++ ds) ↔ CyclesKeepSafe cs ∧ CyclesKeepSafe ds := List.forall_mem_append

theorem CyclesKeepSafe.drop {cs : List Cycle} (h : CyclesKeepSafe cs) (n : Nat) : CyclesKeepSafe (cs.drop n) :=
  fun c hc => h c (List.mem_of_mem_drop hc)

theorem runCycle_safeKept {c : Cycle} (h : Cycle.KeepsSafe c) (s : State) : SafeKept s (runCycle c s).1 :=
  (h s).mapCpu _

theorem runCycles_safeKept {cs : List Cycle} (h : CyclesKeepSafe cs) (s : State) : SafeKept s (runCycles cs s) := by
  induction cs generalizing s with
  | nil => exact SafeKept.refl s
  | cons c cs ih =>
    obtain ⟨hc, hcs⟩ := (cyclesKeepSafe_cons c cs).mp h
    have h1 : SafeKept s (runCycle c s.awaitCpu).1 := (awaitCpu_safeKept s).trans (runCycle_safeKept hc _)
    simp only [runCycles]
    split
    · exact h1
    · exact h1.trans (ih hcs _)

/-! Every cycle of the machine is a read or a write of the CPU bus, with register transfers. -/

@[simp] theorem readCycle_keepsSafe (a : Cpu → Word) (k : Byte → Cpu → Cpu) : Cycle.KeepsSafe (readCycle a k) :=
  fun s => (cpuRead_safeKept _ s).mapCpu _

@[simp] theorem writeCycle_keepsSafe (a : Cpu → Word) (v : Cpu → Byte) (k : Cpu → Cpu) :
    Cycle.KeepsSafe (writeCycle a v k) := fun s => (cpuWrite_safeKept _ _ s).mapCpu _

@[simp] theorem dummyReadPc_keepsSafe : Cycle.KeepsSafe dummyReadPc := readCycle_keepsSafe _ _
@[simp] theorem pushCycle_keepsSafe (v : Cpu → Byte) : Cycle.KeepsSafe (pushCycle v) := writeCycle_keepsSafe _ _ _
@[simp] theorem pullCycle_keepsSafe (k : Byte → Cpu → Cpu) : Cycle.KeepsSafe (pullCycle k) := readCycle_keepsSafe _ _
@[simp] theorem pullDummy_keepsSafe : Cycle.KeepsSafe pullDummy := pullCycle_keepsSafe _
@[simp] theorem operandCycle_keepsSafe (l : Byte → Cpu → Cpu) : Cycle.KeepsSafe (operandCycle l) :=
  readCycle_keepsSafe _ _
@[simp] theorem fetchOpcode_keepsSafe : Cycle.KeepsSafe fetchOpcode := readCycle_keepsSafe _ _
@[simp] theorem resetStackCycle_keepsSafe : Cycle.KeepsSafe resetStackCycle := readCycle_keepsSafe _ _
@[simp] theorem readEa_keepsSafe : Cycle.KeepsSafe readEa := readCycle_keepsSafe _ _
@[simp] theorem writeEa_keepsSafe (r : Cpu → Byte) : Cycle.KeepsSafe (writeEa r) := writeCycle_keepsSafe _ _ _
@[simp] theorem dummyWriteEa_keepsSafe : Cycle.KeepsSafe dummyWriteEa := writeEa_keepsSafe _
@[simp] theorem zpIndex_keepsSafe (idx : Cpu → Byte) : Cycle.KeepsSafe (zpIndex idx) := readCycle_keepsSafe _ _
@[simp] theorem indexAlways_keepsSafe (idx : Cpu → Byte) : Cycle.KeepsSafe (indexAlways idx) := readCycle_keepsSafe _ _
@[simp] theorem indexRead_keepsSafe (idx : Cpu → Byte) : Cycle.KeepsSafe (indexRead idx) := fun s =>
  readCycle_keepsSafe (uncarried idx)
    (fun b c => ((c.setVal b).setEa (indexed idx c)).setCrossed (carries c.lo (idx c))) s
@[simp] theorem branchT3_keepsSafe : Cycle.KeepsSafe branchT3 := fun s => readCycle_keepsSafe Cpu.pc
  (fun _ c => (if branchCrosses c then c else c.setPc (branchTarget c)).setCrossed (branchCrosses c)) s
@[simp] theorem branchT4_keepsSafe : Cycle.KeepsSafe branchT4 := readCycle_keepsSafe _ _

@[simp] theorem rmwEa_keepSafe (new : Byte → Cpu → Byte) : CyclesKeepSafe (rmwEa new) := by simp [rmwEa]
@[simp] theorem izxPointer_keepSafe : CyclesKeepSafe izxPointer := by simp [izxPointer]
@[simp] theorem izyPointer_keepSafe : CyclesKeepSafe izyPointer := by simp [izyPointer]
@[simp] theorem pullVal_keepSafe : CyclesKeepSafe pullVal := by simp [pullVal]
@[simp] theorem indirectCycles_keepSafe : CyclesKeepSafe indirectCycles := by simp [indirectCycles]
@[simp] theorem jsrCycles_keepSafe : CyclesKeepSafe jsrCycles := by simp [jsrCycles, dummyRead]
@[simp] theorem rtsCycles_keepSafe : CyclesKeepSafe rtsCycles := by simp [rtsCycles]
@[simp] theorem returnFromException_keepSafe : CyclesKeepSafe returnFromException := by simp [returnFromException]
@[simp] theorem vectorCycles_keepSafe (vec : Word) : CyclesKeepSafe (vectorCycles vec) := by simp [vectorCycles]
@[simp] theorem takeException_keepSafe (vec : Word) (status : Flags → Byte) :
    CyclesKeepSafe (takeException vec status) := by simp [takeException]

theorem interruptCycles_keepSafe (k : Interrupt) : CyclesKeepSafe (interruptCycles k) := by simp [interruptCycles]
theorem resetCycles_keepSafe : CyclesKeepSafe resetCycles := by simp [resetCycles]

/-! ## The ends of sequences -/

theorem Ends.safeKept {inh : Bool} {M t : State} {g : Regs} (h : Ends inh M g t) : SafeKept M t := by
  refine ⟨h.kept, fun hw => ?_⟩
  obtain ⟨-, -, -, -, -, -, -, hsched, -⟩ := h
  rw [hsched]
  exact hw

theorem endInstruction_safeKept (inhibit : Bool) (s : State) : SafeKept s (endInstruction inhibit s) :=
  (endInstruction_ends inhibit s s.cpu).safeKept

theorem endInterrupt_safeKept (s : State) : SafeKept s (endInterrupt s) := (SafeKept.refl s).mapCpu _

theorem endReset_safeKept (s : State) : SafeKept s (endReset s) := (SafeKept.refl s).mapCpu _

/-- A step that answers a next state answers the one its cycles came to (R14). -/
theorem eq_of_outcome_next {s t : State} (h : outcome s = .next t) : t = s := by
  unfold outcome at h
  split at h
  · cases h
  · cases h
    rfl

/-! ## Programs -/

/-- A program whose cycles and whose operation keep a machine safe. -/
structure Program.KeepsSafe (p : Program) : Prop where
  body : CyclesKeepSafe p.body
  finish : ∀ s, SafeKept s (p.finish s)

theorem Program.KeepsSafe.inhibiting {p : Program} (h : p.KeepsSafe) : p.inhibiting.KeepsSafe := ⟨h.body, h.finish⟩
theorem Program.KeepsSafe.decimally {p : Program} (h : p.KeepsSafe) : p.decimally.KeepsSafe := ⟨h.body, h.finish⟩

theorem plain_keepsSafe {ops : List (Byte → Cpu → Cpu)} {body : List Cycle} (f : Cpu → Cpu)
    (h : CyclesKeepSafe body) : (plain ops body (·.mapCpu f)).KeepsSafe := ⟨h, fun s => (SafeKept.refl s).mapCpu f⟩

/-- A program without an operation at its end. -/
theorem plain_id_keepsSafe {ops : List (Byte → Cpu → Cpu)} {body : List Cycle} (h : CyclesKeepSafe body) :
    (plain ops body id).KeepsSafe := plain_keepsSafe id h

/-- A program that ends with an operation on the value read. -/
theorem plain_onVal_keepsSafe {ops : List (Byte → Cpu → Cpu)} {body : List Cycle} (op : Byte → Cpu → Cpu)
    (h : CyclesKeepSafe body) : (plain ops body (onVal op)).KeepsSafe := plain_keepsSafe (fun c => op c.val c) h

section Forms

variable (op : Byte → Cpu → Cpu) (r : Cpu → Byte) (new : Byte → Cpu → Byte)

theorem implied_keepsSafe (f : Cpu → Cpu) : (implied f).KeepsSafe := plain_keepsSafe f (by simp)
theorem accumulator_keepsSafe : (accumulator new op).KeepsSafe := implied_keepsSafe _
theorem immRead_keepsSafe : (immRead op).KeepsSafe := plain_onVal_keepsSafe op (by simp)
theorem zpRead_keepsSafe : (zpRead op).KeepsSafe := plain_onVal_keepsSafe op (by simp)
theorem zpxRead_keepsSafe : (zpxRead op).KeepsSafe := plain_onVal_keepsSafe op (by simp)
theorem zpyRead_keepsSafe : (zpyRead op).KeepsSafe := plain_onVal_keepsSafe op (by simp)
theorem absRead_keepsSafe : (absRead op).KeepsSafe := plain_onVal_keepsSafe op (by simp)
theorem absxRead_keepsSafe : (absxRead op).KeepsSafe := plain_onVal_keepsSafe op (by simp)
theorem absyRead_keepsSafe : (absyRead op).KeepsSafe := plain_onVal_keepsSafe op (by simp)
theorem izxRead_keepsSafe : (izxRead op).KeepsSafe := plain_onVal_keepsSafe op (by simp)
theorem izyRead_keepsSafe : (izyRead op).KeepsSafe := plain_onVal_keepsSafe op (by simp)
theorem zpWrite_keepsSafe : (zpWrite r).KeepsSafe := plain_id_keepsSafe (by simp)
theorem zpxWrite_keepsSafe : (zpxWrite r).KeepsSafe := plain_id_keepsSafe (by simp)
theorem zpyWrite_keepsSafe : (zpyWrite r).KeepsSafe := plain_id_keepsSafe (by simp)
theorem absWrite_keepsSafe : (absWrite r).KeepsSafe := plain_id_keepsSafe (by simp)
theorem absxWrite_keepsSafe : (absxWrite r).KeepsSafe := plain_id_keepsSafe (by simp)
theorem absyWrite_keepsSafe : (absyWrite r).KeepsSafe := plain_id_keepsSafe (by simp)
theorem izxWrite_keepsSafe : (izxWrite r).KeepsSafe := plain_id_keepsSafe (by simp)
theorem izyWrite_keepsSafe : (izyWrite r).KeepsSafe := plain_id_keepsSafe (by simp)
theorem zpRmw_keepsSafe : (zpRmw new op).KeepsSafe := plain_onVal_keepsSafe op (by simp)
theorem zpxRmw_keepsSafe : (zpxRmw new op).KeepsSafe := plain_onVal_keepsSafe op (by simp)
theorem absRmw_keepsSafe : (absRmw new op).KeepsSafe := plain_onVal_keepsSafe op (by simp)
theorem absxRmw_keepsSafe : (absxRmw new op).KeepsSafe := plain_onVal_keepsSafe op (by simp)
theorem absyRmw_keepsSafe : (absyRmw new op).KeepsSafe := plain_onVal_keepsSafe op (by simp)
theorem izxRmw_keepsSafe : (izxRmw new op).KeepsSafe := plain_onVal_keepsSafe op (by simp)
theorem izyRmw_keepsSafe : (izyRmw new op).KeepsSafe := plain_onVal_keepsSafe op (by simp)

end Forms

theorem branch_keepsSafe (cond : Flags → Bool) : (branch cond).KeepsSafe where
  body := by simp [branch]
  finish := SafeKept.refl

/-- The fallback class makes dummy reads only, and at its end adds a record (R820). -/
theorem fallback_keepsSafe (opcode : Byte) (length cycles : Nat) : (fallback opcode length cycles).KeepsSafe where
  body := by
    intro c hc
    rw [List.eq_of_mem_replicate hc]
    exact dummyReadPc_keepsSafe
  finish s := by
    obtain ⟨hbus, hvideo, hirq, hfits, hcanonical⟩ := StateKept.refl s
    exact ⟨⟨hbus, hvideo, hirq, hfits, hcanonical⟩, id⟩

/-- The program of every instruction keeps a machine safe, since it is of one of the forms above. -/
theorem programOf_keepsSafe (i : Instr) : (programOf i).KeepsSafe := by
  cases i
  case clc | nopImp1A | sec | nopImp3A | nopImp5A | nopImp7A | dey | txa | tya | txs | tay | tax | clv | tsx
      | iny | dex | cld | nopImpDA | inx | nop | sed | nopImpFA => exact implied_keepsSafe _
  case cli | sei => exact (implied_keepsSafe _).inhibiting
  case aslAcc | rolAcc | lsrAcc | rorAcc => exact accumulator_keepsSafe _ _
  case oraImm | anc0B | andImm | anc2B | eorImm | alrImm | arrImm | nopImm80 | nopImm82 | nopImm89 | ldyImm
      | ldxImm | ldaImm | cpyImm | nopImmC2 | cmpImm | sbxImm | cpxImm | nopImmE2 => exact immRead_keepsSafe _
  case adcImm | sbcImm | usbcImm => exact (immRead_keepsSafe _).decimally
  case nopZp04 | oraZp | bitZp | andZp | nopZp44 | eorZp | nopZp64 | ldyZp | ldaZp | ldxZp | laxZp | cpyZp
      | cmpZp | cpxZp => exact zpRead_keepsSafe _
  case adcZp | sbcZp => exact (zpRead_keepsSafe _).decimally
  case nopZpx14 | oraZpx | nopZpx34 | andZpx | nopZpx54 | eorZpx | nopZpx74 | ldyZpx | ldaZpx | nopZpxD4
      | cmpZpx | nopZpxF4 => exact zpxRead_keepsSafe _
  case adcZpx | sbcZpx => exact (zpxRead_keepsSafe _).decimally
  case ldxZpy | laxZpy => exact zpyRead_keepsSafe _
  case nopAbs | oraAbs | bitAbs | andAbs | eorAbs | ldyAbs | ldaAbs | ldxAbs | laxAbs | cpyAbs | cmpAbs | cpxAbs =>
    exact absRead_keepsSafe _
  case adcAbs | sbcAbs => exact (absRead_keepsSafe _).decimally
  case nopAbsx1C | oraAbsx | nopAbsx3C | andAbsx | nopAbsx5C | eorAbsx | nopAbsx7C | ldyAbsx | ldaAbsx
      | nopAbsxDC | cmpAbsx | nopAbsxFC => exact absxRead_keepsSafe _
  case adcAbsx | sbcAbsx => exact (absxRead_keepsSafe _).decimally
  case oraAbsy | andAbsy | eorAbsy | ldaAbsy | lasAbsy | ldxAbsy | laxAbsy | cmpAbsy => exact absyRead_keepsSafe _
  case adcAbsy | sbcAbsy => exact (absyRead_keepsSafe _).decimally
  case oraIzx | andIzx | eorIzx | ldaIzx | laxIzx | cmpIzx => exact izxRead_keepsSafe _
  case adcIzx | sbcIzx => exact (izxRead_keepsSafe _).decimally
  case oraIzy | andIzy | eorIzy | ldaIzy | laxIzy | cmpIzy => exact izyRead_keepsSafe _
  case adcIzy | sbcIzy => exact (izyRead_keepsSafe _).decimally
  case styZp | staZp | stxZp | saxZp => exact zpWrite_keepsSafe _
  case styZpx | staZpx => exact zpxWrite_keepsSafe _
  case stxZpy | saxZpy => exact zpyWrite_keepsSafe _
  case styAbs | staAbs | stxAbs | saxAbs => exact absWrite_keepsSafe _
  case staAbsx => exact absxWrite_keepsSafe _
  case staAbsy => exact absyWrite_keepsSafe _
  case staIzx | saxIzx => exact izxWrite_keepsSafe _
  case staIzy => exact izyWrite_keepsSafe _
  case aslZp | sloZp | rolZp | rlaZp | lsrZp | sreZp | rorZp | decZp | dcpZp | incZp => exact zpRmw_keepsSafe _ _
  case rraZp | iscZp => exact (zpRmw_keepsSafe _ _).decimally
  case aslZpx | sloZpx | rolZpx | rlaZpx | lsrZpx | sreZpx | rorZpx | decZpx | dcpZpx | incZpx =>
    exact zpxRmw_keepsSafe _ _
  case rraZpx | iscZpx => exact (zpxRmw_keepsSafe _ _).decimally
  case aslAbs | sloAbs | rolAbs | rlaAbs | lsrAbs | sreAbs | rorAbs | decAbs | dcpAbs | incAbs =>
    exact absRmw_keepsSafe _ _
  case rraAbs | iscAbs => exact (absRmw_keepsSafe _ _).decimally
  case aslAbsx | sloAbsx | rolAbsx | rlaAbsx | lsrAbsx | sreAbsx | rorAbsx | decAbsx | dcpAbsx | incAbsx =>
    exact absxRmw_keepsSafe _ _
  case rraAbsx | iscAbsx => exact (absxRmw_keepsSafe _ _).decimally
  case sloAbsy | rlaAbsy | sreAbsy | dcpAbsy => exact absyRmw_keepsSafe _ _
  case rraAbsy | iscAbsy => exact (absyRmw_keepsSafe _ _).decimally
  case sloIzx | rlaIzx | sreIzx | dcpIzx => exact izxRmw_keepsSafe _ _
  case rraIzx | iscIzx => exact (izxRmw_keepsSafe _ _).decimally
  case sloIzy | rlaIzy | sreIzy | dcpIzy => exact izyRmw_keepsSafe _ _
  case rraIzy | iscIzy => exact (izyRmw_keepsSafe _ _).decimally
  case bmi | bvs | bcs | beq => exact branch_keepsSafe _
  case bpl => exact branch_keepsSafe fun p => !p.n
  case bvc => exact branch_keepsSafe fun p => !p.v
  case bcc => exact branch_keepsSafe fun p => !p.c
  case bne => exact branch_keepsSafe fun p => !p.z
  case jam02 | jam12 | jam22 | jam32 | jam42 | jam52 | jam62 | jam72 | aneImm | jam92 | shaIzy | tasAbsy
      | shyAbsx | shxAbsy | shaAbsy | lxaImm | jamB2 | jamD2 | jamF2 => exact fallback_keepsSafe _ _ _
  case jmpAbs => exact plain_keepsSafe jumpToOperand (by simp)
  case jmpInd => exact plain_id_keepsSafe indirectCycles_keepSafe
  case jsrAbs => exact plain_id_keepsSafe jsrCycles_keepSafe
  case rts => exact plain_id_keepsSafe rtsCycles_keepSafe
  case brk => exact plain_id_keepsSafe (takeException_keepSafe vectorIrq Flags.pushedBySoftware)
  case rti => exact plain_id_keepsSafe (by simp)
  case pha | php => exact plain_id_keepsSafe (by simp)
  case pla => exact plain_onVal_keepsSafe opLda pullVal_keepSafe
  case plp => exact (plain_onVal_keepsSafe opPlp pullVal_keepSafe).inhibiting

theorem programAt_keepsSafe (op : Byte) : (programAt op).KeepsSafe := programOf_keepsSafe _

theorem fetches_keepSafe (p : Program) : CyclesKeepSafe p.fetches := by
  intro c hc
  obtain ⟨l, -, rfl⟩ := List.mem_map.mp hc
  exact operandCycle_keepsSafe l

section Runs

variable {p : Program} (h : p.KeepsSafe)
include h

theorem rest_safeKept (s : State) : SafeKept s (p.rest s) := by
  unfold Program.rest
  split
  · exact h.finish s
  · exact (runCycles_safeKept h.body s).trans (h.finish _)

/-- What is left of an instruction between two of its cycles. -/
theorem resume_safeKept (n : Nat) (s : State) : SafeKept s (p.resume n s) := by
  unfold Program.resume
  split
  · exact (runCycles_safeKept ((fetches_keepSafe p).drop n) s).trans (rest_safeKept h _)
  · exact (runCycles_safeKept (h.body.drop _) s).trans (h.finish _)

end Runs

theorem conclude_safeKept (p : Program) (s : State) : SafeKept s (p.conclude s) := by
  unfold Program.conclude
  rw [decimalCycle_eq, ite_self]
  exact endInstruction_safeKept p.inhibit s

/-! ## Steps -/

theorem exec_safeKept {i : Instr} {s t : State} (h : exec i s = .next t) : SafeKept s t := by
  rw [exec_eq_run] at h
  rw [eq_of_outcome_next h]
  exact (((SafeKept.refl s).mapCpu _).trans (rest_safeKept (programOf_keepsSafe i) _)).trans (conclude_safeKept _ _)

theorem fetchInstruction_safeKept (s : State) : SafeKept s (fetchInstruction s) :=
  ((awaitCpu_safeKept s).trans (runCycle_safeKept fetchOpcode_keepsSafe _)).trans
    (runCycles_safeKept (fetches_keepSafe _) _)

theorem finishInstruction_safeKept {s t : State} (h : finishInstruction s = .next t) : SafeKept s t := by
  rw [eq_of_outcome_next h]
  exact (resume_safeKept (programAt_keepsSafe _) _ s).trans (conclude_safeKept _ _)

theorem finishSequence_safeKept {cycles : List Cycle} {finish : State → State} {s t : State}
    (hc : CyclesKeepSafe cycles) (hf : ∀ u, SafeKept u (finish u)) (h : finishSequence cycles finish s = .next t) :
    SafeKept s t := by
  rw [eq_of_outcome_next h]
  exact (runCycles_safeKept (hc.drop _) s).trans (hf _)

/-- Whatever the phase, what a step answers keeps the machine safe. -/
theorem step_safeKept {s t : State} (h : step s = .next t) : SafeKept s t := by
  unfold step at h
  split at h
  · cases h
  · split at h
    case h_1 => exact (fetchInstruction_safeKept s).trans (exec_safeKept h)
    case h_2 => exact finishInstruction_safeKept h
    case h_3 =>
      rw [eq_of_outcome_next h]
      exact (runCycles_safeKept (by simp) s).trans (endInstruction_safeKept false _)
    case h_4 k _ => exact finishSequence_safeKept (interruptCycles_keepSafe k) endInterrupt_safeKept h
    case h_5 => exact finishSequence_safeKept resetCycles_keepSafe endReset_safeKept h

/-- Settles O6: every step keeps each part of the invariant, whatever the phase it starts in. -/
theorem stepKeepsTheInvariant : Obligations.StepKeepsTheInvariant :=
  fun _ _ hs h => (step_safeKept h).safe hs


/-! ## The soft reset (R160, R1131) -/

/-- What stays in the PPU's ranges at a soft reset is the framebuffer; everything else they speak of is 0. -/
theorem ppuSoftReset_wf {p : Ppu} (h : p.wf = true) : p.softReset.wf = true := by
  simp only [Ppu.wf, Bool.and_eq_true] at h ⊢
  obtain ⟨-, hpixels⟩ := h
  exact ⟨⟨⟨⟨rfl, rfl⟩, rfl⟩, rfl⟩, hpixels⟩

theorem schedSoftReset_wf {c : Sched} (h : c.wf = true) : c.softReset.wf = true := by
  obtain ⟨-, -, hc, hp, -⟩ := (sched_wf_iff c).mp h
  exact (sched_wf_iff _).mpr ⟨receiver_fresh_wf (hc ▸ by decide), receiver_fresh_wf (hp ▸ by decide), hc, hp, rfl⟩

/-- Where the PPU is the line's only source, a soft reset leaves the line released (R1131). -/
theorem softReset_nmiWf {s : State} (h : s.video.nmiWf = true) : (softReset s).video.nmiWf = true := by
  simp only [Video.nmiWf, decide_eq_true_eq] at h ⊢
  show removeSource Config.ppuNmiSource s.video.nmi.sources = []
  rw [h]
  split
  · exact removeSource_self _
  · rfl

theorem softReset_safe {s : State} (h : s.safe = true) : (softReset s).safe = true := by
  obtain ⟨hready, hppu, hsched, hnmi, hirq⟩ := (safe_iff s).mp h
  exact (safe_iff _).mpr ⟨hready, ppuSoftReset_wf hppu, schedSoftReset_wf hsched, softReset_nmiWf hnmi, hirq⟩

theorem not_mem_removeSource (src : Nat) (l : List Nat) : src ∉ removeSource src l := by simp [removeSource]

/-- Settles O59: each column of R160 is the definition's, and safety needs the framebuffer's range and the line. -/
theorem softResetKeepsAndRestarts : Obligations.SoftResetKeepsAndRestarts := by
  intro s
  exact ⟨rfl, rfl, rfl, rfl, rfl, rfl, rfl, rfl, rfl, rfl, ⟨rfl, rfl, rfl, rfl, rfl, rfl, rfl, rfl, rfl, rfl⟩,
    ⟨rfl, rfl, rfl, rfl, rfl, rfl, rfl, rfl, rfl, rfl, rfl, rfl, rfl, rfl⟩, rfl, not_mem_removeSource _ _,
    softReset_safe⟩

/-! ## The power cycle (R160, R1132) -/

theorem devicePowerUp_of_ram {d : Device} (h : d.kind = .ram) : d.powerUp = { d with cells := [] } := if_pos h
theorem devicePowerUp_of_ne_ram {d : Device} (h : d.kind ≠ .ram) : d.powerUp = d := if_neg h

/-- A device at power-up is the device with other cells, if any change at all. -/
theorem devicePowerUp_eq (d : Device) : d.powerUp = { d with cells := d.powerUp.cells } := by
  unfold Device.powerUp
  split <;> rfl

theorem devicePowerUp_cells_wf {d : Device} (h : Memory.wf d.cells = true) : Memory.wf d.powerUp.cells = true := by
  unfold Device.powerUp
  split
  · rfl
  · exact h

theorem powerCycle_getElem? {s : State} {id : Nat} {d : Device} (h : s.devices[id]? = some d) :
    (powerCycle s).devices[id]? = some d.powerUp := by
  show (s.devices.map Device.powerUp)[id]? = _
  rw [List.getElem?_map, h]
  rfl

/-- No device changes its size at power-up, so the ports that fitted still fit. -/
theorem portsFit_powerUp (devs : List Device) (ports : List Port) :
    portsFit (devs.map Device.powerUp) ports = portsFit devs ports := by
  unfold portsFit
  congr 1
  funext p
  rw [List.getElem?_map]
  cases devs[p.device]? with
  | none => rfl
  | some d => rw [Option.map_some, devicePowerUp_eq d]

theorem devicesWf_powerUp {devs : List Device} (h : devicesWf devs = true) :
    devicesWf (devs.map Device.powerUp) = true := by
  refine List.all_eq_true.mpr fun e he => ?_
  obtain ⟨d, hd, rfl⟩ := List.mem_map.mp he
  exact devicePowerUp_cells_wf (List.all_eq_true.mp h d hd)

/-- Ports that fit and canonical memories are all a power cycle needs to make the machine safe. -/
theorem powerCycle_safe {s : State} (hfit : s.busFits = true) (hmem : s.memoryWf = true) :
    (powerCycle s).safe = true := by
  simp only [State.busFits, Bool.and_eq_true] at hfit
  simp only [State.memoryWf, Bool.and_eq_true] at hmem
  obtain ⟨⟨⟨hr, hw⟩, hvr⟩, hvw⟩ := hfit
  obtain ⟨hdevices, -⟩ := hmem
  have hready : (powerCycle s).ready = true := (ready_iff _).mpr
    ⟨⟨(portsFit_powerUp _ _).trans hr, (portsFit_powerUp _ _).trans hw, (portsFit_powerUp _ _).trans hvr,
      (portsFit_powerUp _ _).trans hvw⟩, ⟨devicesWf_powerUp hdevices, rfl⟩, rfl, rfl⟩
  exact (safe_iff _).mpr ⟨hready, rfl, rfl, rfl, rfl⟩

/-- What a power cycle does to one device: RAM reads as 0 everywhere, any other device is kept (log 4). -/
theorem powerCycle_device {s : State} {id : Nat} {d : Device} (h : s.devices[id]? = some d) :
    ∃ e : Device, (powerCycle s).devices[id]? = some e ∧ e = { d with cells := e.cells } ∧
      (d.kind = .ram → ∀ off, e.byteAt off = 0) ∧ (d.kind ≠ .ram → e = d) := by
  refine ⟨d.powerUp, powerCycle_getElem? h, devicePowerUp_eq d, fun hk off => ?_, devicePowerUp_of_ne_ram⟩
  rw [devicePowerUp_of_ram hk]
  rfl

theorem powerUp_units (i : Fin 8) : Ppu.powerUp.units[i] = { lo := 0, hi := 0, attr := 0, x := 0 } :=
  Vector.getElem_replicate ..

theorem powerUp_oam2 (i : Fin 32) : Ppu.powerUp.oam2[i] = 0xFF := Vector.getElem_replicate ..

theorem powerUp_oamAt (i : Byte) : Ppu.powerUp.oamAt i = 0 := Vector.getElem_replicate ..

theorem powerUp_paletteAt (a : Nat) : Ppu.powerUp.paletteAt a = 0 := Vector.getElem_replicate ..

/-- Settles O60: the columns of R160 are the definition's, the vectors are constant, and each device is looked at by
its kind. -/
theorem powerCycleTakesThePowerUpColumn : Obligations.PowerCycleTakesThePowerUpColumn := by
  intro s
  exact ⟨rfl, rfl, rfl, rfl, rfl, rfl, rfl, rfl, rfl, rfl, rfl, rfl, rfl, rfl, rfl,
    ⟨rfl, rfl, rfl, rfl, rfl, rfl, rfl, rfl, rfl, rfl, rfl, rfl⟩,
    ⟨rfl, rfl, rfl, rfl, rfl, rfl, rfl, rfl, rfl, rfl, rfl, rfl, rfl, rfl, rfl, rfl⟩,
    ⟨rfl, rfl, rfl, rfl, rfl⟩, powerUp_units, powerUp_oam2, powerUp_oamAt, powerUp_paletteAt, fun _ => rfl,
    List.length_map _, fun _ _ => powerCycle_device, powerCycle_safe⟩

/-! ## The machine after reset -/

/-- The state after reset is what a power cycle makes of it (R1132; log 1). -/
theorem powerCycle_reset : powerCycle State.reset = State.reset := rfl

/-- Settles O5: the reference ports fit their devices, and the rest is the power cycle's work. -/
theorem resetIsSafe : Obligations.ResetIsSafe := by
  have h : (powerCycle State.reset).safe = true := powerCycle_safe (by decide) (by decide)
  rwa [powerCycle_reset] at h

end Sys2Proof.Machine
end

section
/-! PROOFS. The address spaces (file 20): the sparse memories behind RAM (R206), what a CPU access does at each target
(R205, R210 to R212, R214), and the registration of ports (R202 to R204). -/

namespace Sys2Proof.Machine

/-! ## Canonical memories (R206; log 4) -/

theorem Cells.wfFrom_cons {w lo j : Nat} {v : BitVec w} {m : Cells w} :
    Cells.wfFrom lo ((j, v) :: m) = true ↔ lo ≤ j ∧ v ≠ 0 ∧ Cells.wfFrom (j + 1) m = true := by
  simp only [Cells.wfFrom, Bool.and_eq_true, decide_eq_true_eq, and_assoc]

theorem Cells.get_cons_self {w : Nat} (k : Nat) (v : BitVec w) (m : Cells w) : Cells.get ((k, v) :: m) k = v := by
  simp [Cells.get]

theorem Cells.get_cons_of_gt {w j k : Nat} (v : BitVec w) (m : Cells w) (h : j < k) :
    Cells.get ((j, v) :: m) k = m.get k := by
  simp only [Cells.get, if_neg (show ¬ k < j by omega), if_neg (show ¬ j = k by omega)]

/-- The first cell that a canonical memory lists is no later than that of any canonical memory reading the same: before
it the other one would read 0. -/
theorem Cells.first_le_of_get_eq {w lo i j : Nat} {u v : BitVec w} {m m' : Cells w} (hv : v ≠ 0)
    (h' : Cells.wfFrom lo ((i, u) :: m') = true)
    (hget : ∀ k, Cells.get ((i, u) :: m') k = Cells.get ((j, v) :: m) k) : i ≤ j := by
  obtain ⟨-, hu, hrest⟩ := Cells.wfFrom_cons.mp h'
  by_contra hlt
  have hzero : Cells.get ((i, u) :: m') j = 0 :=
    Cells.get_of_lt (Cells.wfFrom_cons.mpr ⟨le_refl i, hu, hrest⟩) (by omega)
  rw [hget, Cells.get_cons_self] at hzero
  exact hv hzero

/-- Two canonical memories that read alike are the same list: their first cells agree, and so do their rests. -/
theorem Cells.eq_of_get_eq {w lo : Nat} {m m' : Cells w} (h : Cells.wfFrom lo m = true)
    (h' : Cells.wfFrom lo m' = true) (hget : ∀ k, m'.get k = m.get k) : m' = m := by
  induction m generalizing lo m' with
  | nil =>
    cases m' with
    | nil => rfl
    | cons c rest =>
      obtain ⟨i, u⟩ := c
      exact absurd ((Cells.get_cons_self i u rest).symm.trans (hget i)) (Cells.wfFrom_cons.mp h').2.1
  | cons c rest ih =>
    obtain ⟨j, v⟩ := c
    obtain ⟨-, hv, hrest⟩ := Cells.wfFrom_cons.mp h
    cases m' with
    | nil => exact absurd ((hget j).trans (Cells.get_cons_self j v rest)).symm hv
    | cons c' rest' =>
      obtain ⟨i, u⟩ := c'
      obtain ⟨-, hu, hrest'⟩ := Cells.wfFrom_cons.mp h'
      obtain rfl : i = j := le_antisymm (Cells.first_le_of_get_eq hv h' hget)
        (Cells.first_le_of_get_eq hu h fun k => (hget k).symm)
      obtain rfl : u = v := by simpa [Cells.get_cons_self] using hget i
      have hrests (k : Nat) : Cells.get rest' k = Cells.get rest k := by
        by_cases hk : i < k
        · simpa [Cells.get_cons_of_gt u _ hk] using hget k
        · rw [Cells.get_of_lt hrest (by omega), Cells.get_of_lt hrest' (by omega)]
      rw [ih hrest hrest' hrests]

/-- Settles O38: the laws of a write are the memory's own, and canonical memories are determined by their cells. -/
theorem canonicalMemories : Obligations.CanonicalMemories :=
  fun _ _ k v h => ⟨Memory.wf_set k v h, Cells.get_set_self k v h, fun _ => Cells.get_set_ne v h,
    fun _ h' => Cells.eq_of_get_eq h h'⟩

/-! ## CPU accesses at a resolved target (R205, R206, R210, R211) -/

/-- A target that no register device answers is read as in any space. -/
theorem readTarget_other {d : Device} (hk : d.kind ≠ .ppuRegisters) (id off : Nat) (s : State) :
    s.readTarget (.hit id d off) = ((s.cpuBus.readTarget .cpu (.hit id d off)).1,
      s.setCpuBus (s.cpuBus.readTarget .cpu (.hit id d off)).2) := by
  unfold State.readTarget
  dsimp only
  split
  · exact absurd ‹_› hk
  · rfl

theorem readTarget_register {d : Device} (hk : d.kind = .ppuRegisters) (id off : Nat) (s : State) :
    s.readTarget (.hit id d off) = ((ppuRegisterRead (registerOf off) s.devices s.video).1,
      (s.setVideo (ppuRegisterRead (registerOf off) s.devices s.video).2).setCpuBus
        (s.cpuBus.latch (ppuRegisterRead (registerOf off) s.devices s.video).1)) := by
  unfold State.readTarget
  dsimp only
  rw [hk]

section Targets
variable {s : State} {addr : Word} {id off : Nat} {d : Device}

theorem cpuRead_absent (h : resolve s.cpuBus.reads s.devices addr.toNat = .absent) :
    cpuRead addr s = (s.cpuBus.openBus, s) := by
  unfold cpuRead
  rw [h]
  rfl

theorem cpuRead_pastDevice (h : resolve s.cpuBus.reads s.devices addr.toNat = .pastDevice) :
    cpuRead addr s = (s.cpuBus.openBus, s.setCpuBus (s.cpuBus.raise .offsetPastDevice)) := by
  unfold cpuRead
  rw [h]
  rfl

theorem cpuRead_ram (hk : d.kind = .ram) (h : resolve s.cpuBus.reads s.devices addr.toNat = .hit id d off) :
    cpuRead addr s = (d.byteAt off, s.setCpuBus (s.cpuBus.latch (d.byteAt off))) := by
  unfold cpuRead
  rw [h, readTarget_other (by rw [hk]; decide)]
  simp only [AddressSpace.readTarget, hk]

theorem cpuWrite_absent (v : Byte) (h : resolve s.cpuBus.writes s.devices addr.toNat = .absent) :
    cpuWrite addr v s = s.setCpuBus (s.cpuBus.latch v) := by
  unfold cpuWrite
  rw [h]
  rfl

theorem cpuWrite_pastDevice (v : Byte) (h : resolve s.cpuBus.writes s.devices addr.toNat = .pastDevice) :
    cpuWrite addr v s = s.setCpuBus ((s.cpuBus.latch v).raise .offsetPastDevice) := by
  unfold cpuWrite
  rw [h]
  rfl

theorem cpuWrite_ram (v : Byte) (hk : d.kind = .ram)
    (h : resolve s.cpuBus.writes s.devices addr.toNat = .hit id d off) :
    cpuWrite addr v s = (s.setDevices (s.devices.set id (d.store off v))).setCpuBus (s.cpuBus.latch v) := by
  have hdma : (Target.hit id d off).isOamDma = false := by simp [Target.isOamDma, hk]
  unfold cpuWrite State.writeTarget
  rw [h, writeDevice_other (by rw [hk]; decide), hdma]
  simp only [storeTarget, hk]
  rfl

end Targets

/-! ## Past a device (R205, R14) -/

theorem step_of_faulted {s : State} (h : s.faulted = true) : step s = .fault .offsetPastDevice := if_pos h

theorem tick_of_faulted {s : State} (h : s.faulted = true) : tick s = s := if_pos h

/-- Settles O36: either access raises the Fault, which `step` and `tick` look at first; ports that fit never get there. -/
theorem offsetPastDeviceStopsTheMachine : Obligations.OffsetPastDeviceStopsTheMachine := by
  refine ⟨fun s addr v => ⟨fun h => ?_, fun h => ?_⟩, fun s h => ⟨step_of_faulted h, tick_of_faulted h⟩,
    fun s addr h => ?_⟩
  · rw [cpuRead_pastDevice h]
    rfl
  · rw [cpuWrite_pastDevice v h]
    rfl
  · simp only [State.busFits, Bool.and_eq_true] at h
    obtain ⟨⟨⟨hreads, hwrites⟩, -⟩, -⟩ := h
    exact ⟨resolve_ne_pastDevice hreads addr, resolve_ne_pastDevice hwrites addr⟩

/-! ## RAM (R206) -/

/-- What resolves to a device resolves, at the same offset, to one put in its place that is as large and as valid. -/
theorem resolve_set {ports : List Port} {devs : List Device} {addr id off : Nat} {d e : Device}
    (h : resolve ports devs addr = .hit id d off) (hsize : e.size = d.size) (hvalid : e.valid = d.valid) :
    resolve ports (devs.set id e) addr = .hit id e off := by
  obtain ⟨hd, hon, hoff⟩ := resolve_hit h
  have hlt : id < devs.length := (List.getElem?_eq_some_iff.mp hd).1
  unfold resolve at h ⊢
  cases hp : portAt ports addr with
  | none => simp [hp] at h
  | some p =>
    simp only [hp] at h ⊢
    split at h
    · cases h
    · split at h
      · split at h
        · cases h
          simp only [List.getElem?_set_self hlt, hvalid, hon, hsize, hoff, if_true]
        · cases h
      · cases h

theorem byteAt_store {d : Device} {off off' : Nat} (v : Byte) (hwf : Memory.wf d.cells = true)
    (hcell : d.index off = d.index off') : (d.store off v).byteAt off' = v := by
  show (d.cells.set (d.index off) v).get (d.index off') = v
  rw [← hcell]
  exact Cells.get_set_self _ v hwf

/-- The write puts the byte into the device, and the read finds the device at the same place of the list. -/
theorem cpuRead_cpuWrite_ram {s : State} {addr : Word} {id off off' : Nat} {d : Device} (v : Byte)
    (hwf : devicesWf s.devices = true) (hk : d.kind = .ram) (hcell : d.index off = d.index off')
    (hw : resolve s.cpuBus.writes s.devices addr.toNat = .hit id d off)
    (hr : resolve s.cpuBus.reads s.devices addr.toNat = .hit id d off') :
    (cpuRead addr (cpuWrite addr v s)).1 = v := by
  have hread : resolve (cpuWrite addr v s).cpuBus.reads (cpuWrite addr v s).devices addr.toNat =
      .hit id (d.store off v) off' := by
    rw [cpuWrite_ram v hk hw]
    exact resolve_set hr (Device.store_size d off v) (Device.store_valid d off v)
  rw [cpuRead_ram (d := d.store off v) hk hread]
  exact byteAt_store v (devicesWf_get hwf (resolve_hit hw).1) hcell

/-- Settles O34: the written cell is the read one, and `storesTo` names the only cell a write changes. -/
theorem readAfterWriteOfRam : Obligations.ReadAfterWriteOfRam := by
  intro s addr v hmem
  simp only [State.memoryWf, Bool.and_eq_true] at hmem
  obtain ⟨hwf, -⟩ := hmem
  refine ⟨fun id d off off' hk hcell hw hr => cpuRead_cpuWrite_ram v hwf hk hcell hw hr, fun dev idx hne => ?_,
    fun dev idx heq => ?_, (cpuRead_same addr s).2.1⟩
  · rw [cpuWrite_cell addr v s dev idx hwf, if_neg hne]
  · rw [cpuWrite_cell addr v s dev idx hwf, if_pos heq]

/-! ## The open bus and `poke` (R210 to R212, R214) -/

/-- A read that a memory or an external device answers drives the latch with its byte. -/
theorem AddressSpace.readTarget_openBus {d : Device} (hreg : d.kind ≠ .ppuRegisters) (hdma : d.kind ≠ .oamDma)
    (sp : Space) (b : AddressSpace) (id off : Nat) :
    (b.readTarget sp (.hit id d off)).2.openBus = (b.readTarget sp (.hit id d off)).1 := by
  unfold AddressSpace.readTarget
  dsimp only
  cases hk : d.kind with
  | ram => rfl
  | rom => rfl
  | external => rfl
  | ppuRegisters => exact absurd hk hreg
  | oamDma => exact absurd hk hdma

theorem AddressSpace.pokeTarget_of_pokeable {d : Device} (h : d.pokeable = true) (sp : Space) (b : AddressSpace)
    (id off : Nat) : b.pokeTarget sp (.hit id d off) = (b.readTarget sp (.hit id d off)).1 := by
  unfold AddressSpace.pokeTarget AddressSpace.readTarget
  dsimp only
  rw [if_pos h]
  cases d.kind <;> rfl

theorem AddressSpace.pokeTarget_of_not_pokeable {d : Device} (h : d.pokeable = false) (sp : Space) (b : AddressSpace)
    (id off : Nat) : b.pokeTarget sp (.hit id d off) = b.openBus := by
  unfold AddressSpace.pokeTarget
  dsimp only
  rw [if_neg (by rw [h]; decide)]

/-- Unless a DMA follows, the byte written is what the latch holds (R211: "regardless of hit/miss"). -/
theorem AddressSpace.writeLatch_openBus (b : AddressSpace) (v : Byte) (t : Target) :
    (b.writeLatch v t).openBus = v := by
  cases t <;> rfl

theorem cpuWrite_openBus {s : State} {addr : Word} (v : Byte)
    (h : (resolve s.cpuBus.writes s.devices addr.toNat).isOamDma = false) : (cpuWrite addr v s).cpuBus.openBus = v := by
  unfold cpuWrite State.writeTarget
  rw [h]
  exact AddressSpace.writeLatch_openBus _ v _

section Hits
variable {s : State} {addr : Word} {id off : Nat} {d : Device}
  (h : resolve s.cpuBus.reads s.devices addr.toNat = .hit id d off)
include h

theorem cpuRead_openBus (hdma : d.kind ≠ .oamDma) : (cpuRead addr s).2.cpuBus.openBus = (cpuRead addr s).1 := by
  unfold cpuRead
  rw [h]
  by_cases hk : d.kind = .ppuRegisters
  · rw [readTarget_register hk]
    rfl
  · rw [readTarget_other hk]
    exact AddressSpace.readTarget_openBus hk hdma _ _ id off

theorem cpuPoke_register (hk : d.kind = .ppuRegisters) : cpuPoke addr s =
    if d.pokeable then (ppuRegisterRead (registerOf off) s.devices s.video).1 else s.cpuBus.openBus := by
  unfold cpuPoke
  rw [h]
  dsimp only
  rw [hk]

theorem cpuPoke_other (hk : d.kind ≠ .ppuRegisters) :
    cpuPoke addr s = s.cpuBus.pokeTarget .cpu (.hit id d off) := by
  unfold cpuPoke
  rw [h]
  dsimp only
  split
  · exact absurd ‹_› hk
  · rfl

theorem cpuPoke_of_pokeable (hp : d.pokeable = true) : cpuPoke addr s = (cpuRead addr s).1 := by
  by_cases hk : d.kind = .ppuRegisters
  · rw [cpuPoke_register h hk, if_pos hp, cpuRead, h, readTarget_register hk]
  · rw [cpuPoke_other h hk, cpuRead, h, readTarget_other hk]
    exact AddressSpace.pokeTarget_of_pokeable hp _ _ id off

theorem cpuPoke_of_not_pokeable (hp : d.pokeable = false) : cpuPoke addr s = s.cpuBus.openBus := by
  by_cases hk : d.kind = .ppuRegisters
  · rw [cpuPoke_register h hk, if_neg (by rw [hp]; decide)]
  · rw [cpuPoke_other h hk]
    exact AddressSpace.pokeTarget_of_not_pokeable hp _ _ id off

end Hits

theorem cpuPoke_absent {s : State} {addr : Word} (h : resolve s.cpuBus.reads s.devices addr.toNat = .absent) :
    cpuPoke addr s = s.cpuBus.openBus := by
  unfold cpuPoke
  rw [h]
  rfl

/-- Settles O35: each clause is the access's law at that target. -/
theorem openBusAndPoke : Obligations.OpenBusAndPoke :=
  fun _ _ v => ⟨⟨cpuRead_absent, fun _ _ _ h => cpuRead_openBus h, cpuWrite_openBus v, cpuWrite_absent v⟩,
    fun _ _ _ h => cpuPoke_of_pokeable h, fun _ _ _ h => cpuPoke_of_not_pokeable h, cpuPoke_absent⟩

/-! ## Registering ports (R202, R203) -/

theorem Port.contains_iff (p : Port) (a : Nat) : p.contains a = true ↔ p.base ≤ a ∧ a < p.base + p.size := by
  simp only [Port.contains, Bool.and_eq_true, decide_eq_true_eq]

/-- Ports overlap when they share an address: the larger of their bases, if any. -/
theorem Port.overlaps_iff (p q : Port) :
    p.overlaps q = true ↔ ∃ a, q.contains a = true ∧ p.base ≤ a ∧ a < p.base + p.size := by
  simp only [Port.overlaps, Port.contains_iff, decide_eq_true_eq]
  constructor
  · exact fun h => ⟨max p.base q.base, by omega⟩
  · rintro ⟨a, h⟩
    omega

/-- A port of a selected list shares an address with `p`: what `rejects` looks at last. -/
def AddressSpace.taken (b : AddressSpace) (p : Port) (dir : Direction) : Bool :=
  (dir.reads && b.reads.any p.overlaps) || (dir.writes && b.writes.any p.overlaps)

theorem Direction.reads_iff (dir : Direction) : dir.reads = true ↔ dir ≠ .write := by cases dir <;> decide

theorem Direction.writes_iff (dir : Direction) : dir.writes = true ↔ dir ≠ .read := by cases dir <;> decide

theorem AddressSpace.taken_iff (b : AddressSpace) (p : Port) (dir : Direction) : b.taken p dir = true ↔
    ∃ q, (∃ a, q.contains a = true ∧ p.base ≤ a ∧ a < p.base + p.size) ∧
      ((dir ≠ .write ∧ q ∈ b.reads) ∨ (dir ≠ .read ∧ q ∈ b.writes)) := by
  simp only [AddressSpace.taken, Bool.or_eq_true, Bool.and_eq_true, List.any_eq_true, Port.overlaps_iff,
    Direction.reads_iff, Direction.writes_iff]
  constructor
  · rintro (⟨hdir, q, hq, hshares⟩ | ⟨hdir, q, hq, hshares⟩)
    · exact ⟨q, hshares, .inl ⟨hdir, hq⟩⟩
    · exact ⟨q, hshares, .inr ⟨hdir, hq⟩⟩
  · rintro ⟨q, hshares, ⟨hdir, hq⟩ | ⟨hdir, hq⟩⟩
    · exact .inl ⟨hdir, q, hq, hshares⟩
    · exact .inr ⟨hdir, q, hq, hshares⟩

theorem AddressSpace.insert_eq (b : AddressSpace) (p : Port) (dir : Direction) :
    b.insert p dir = { b with reads := if dir = .write then b.reads else p :: b.reads
                              writes := if dir = .read then b.writes else p :: b.writes } := by
  cases dir <;> rfl

theorem AddressSpace.addPort_none (sp : Space) (b : AddressSpace) (base size : Nat) (dir : Direction) :
    b.addPort sp none base size dir = .error .nullDevice := rfl

/-- `add_port` of a device, in the order of R203's rejections. -/
theorem AddressSpace.addPort_some (sp : Space) (b : AddressSpace) (dev base size : Nat) (dir : Direction) :
    b.addPort sp (some dev) base size dir =
      if size = 0 ∨ spaceLimit sp < base + size then .error .outOfSpace
      else if b.taken { device := dev, base := base, size := size } dir then .error .overlap
      else .ok (b.insert { device := dev, base := base, size := size } dir) := by
  unfold AddressSpace.addPort AddressSpace.rejects AddressSpace.taken
  simp only [Option.isNone_some, Bool.false_eq_true, if_false, Option.getD_some, Bool.or_eq_true, decide_eq_true_eq]
  split_ifs <;> rfl

theorem AddressSpace.addPort_of_fits {sp : Space} {dev base size : Nat} (b : AddressSpace) (dir : Direction)
    (hsize : 1 ≤ size) (hfits : base + size ≤ spaceLimit sp) : b.addPort sp (some dev) base size dir =
      if b.taken { device := dev, base := base, size := size } dir then .error .overlap
      else .ok (b.insert { device := dev, base := base, size := size } dir) := by
  rw [AddressSpace.addPort_some, if_neg (by omega)]

/-- What an accepted call did: it inserted a port that shares no address with the selected lists. -/
theorem AddressSpace.addPort_ok {sp : Space} {b b' : AddressSpace} {dev : Option Nat} {base size : Nat}
    {dir : Direction} (h : b.addPort sp dev base size dir = .ok b') :
    ∃ p : Port, b.taken p dir = false ∧ b' = b.insert p dir := by
  cases dev with
  | none => cases h
  | some dev =>
    rw [AddressSpace.addPort_some] at h
    split_ifs at h with hspace htaken
    cases h
    exact ⟨_, Bool.eq_false_iff.mpr htaken, rfl⟩

/-! ## Ports that share no address (R203, R204, R210) -/

/-- No two ports of a list share an address: what R203 keeps of each list. -/
def PortsApart (l : List Port) : Prop := l.Pairwise fun q r => ∀ a, ¬ (q.contains a = true ∧ r.contains a = true)

theorem portsApart_cons {p : Port} {l : List Port} (h : PortsApart l) (hp : ∀ q ∈ l, ¬ p.overlaps q = true) :
    PortsApart (p :: l) := by
  refine List.pairwise_cons.mpr ⟨fun q hq a hboth => hp q hq ?_, h⟩
  exact (Port.overlaps_iff p q).mpr ⟨a, hboth.2, (Port.contains_iff p a).mp hboth.1⟩

theorem insert_portsApart {b : AddressSpace} {p : Port} {dir : Direction} (hfree : b.taken p dir = false)
    (hr : PortsApart b.reads) (hw : PortsApart b.writes) :
    PortsApart (b.insert p dir).reads ∧ PortsApart (b.insert p dir).writes := by
  simp only [AddressSpace.taken, Bool.or_eq_false_iff, Bool.and_eq_false_imp, List.any_eq_false] at hfree
  obtain ⟨hreads, hwrites⟩ := hfree
  unfold AddressSpace.insert
  constructor
  · dsimp only
    split
    · exact portsApart_cons hr (hreads ‹_›)
    · exact hr
  · dsimp only
    split
    · exact portsApart_cons hw (hwrites ‹_›)
    · exact hw

theorem keepPorts_portsApart {b : AddressSpace} (keep : Port → Bool) (hr : PortsApart b.reads)
    (hw : PortsApart b.writes) :
    PortsApart (b.keepPorts keep).reads ∧ PortsApart (b.keepPorts keep).writes :=
  ⟨hr.filter keep, hw.filter keep⟩

theorem portAt_eq_none {l : List Port} {a : Nat} (h : ∀ q ∈ l, ¬ q.contains a = true) : portAt l a = none := by
  cases hp : portAt l a with
  | none => rfl
  | some q => exact absurd (portAt_mem hp).2 (h q (portAt_mem hp).1)

/-- Of ports that share no address, the one that holds an address is the one found there. -/
theorem portAt_of_portsApart {l : List Port} {a : Nat} {q : Port} (h : PortsApart l) (hq : q ∈ l)
    (ha : q.contains a = true) : portAt l a = some q := by
  induction l with
  | nil => cases hq
  | cons p ps ih =>
    obtain ⟨hp, hps⟩ := List.pairwise_cons.mp h
    rcases List.mem_cons.mp hq with rfl | hmem
    · have hnone : portAt ps a = none := portAt_eq_none fun r hr hc => hp r hr a ⟨ha, hc⟩
      simp only [portAt, hnone, ha, if_true]
    · have hout : p.contains a = false := Bool.eq_false_iff.mpr fun hc => hp q hmem a ⟨hc, ha⟩
      simp only [portAt, ih hps hmem, hout, Bool.false_and, Bool.false_eq_true, if_false]

/-- Settles O37: `add_port` by its three checks, removal as a filter of both lists. -/
theorem portRegistration : Obligations.PortRegistration := by
  intro sp b base size dir
  refine ⟨AddressSpace.addPort_none sp b base size dir, fun dev hspace => ?_, fun dev hsize hfits => ⟨fun htaken => ?_,
    fun hfree => ?_⟩, fun q dev a => ?_, rfl, fun _ _ => ⟨rfl, rfl⟩, fun hr hw => ⟨fun dev b' hok => ?_, fun dev a => ?_,
    fun a q ha => ⟨fun hq => portAt_of_portsApart hr hq ha, fun hq => portAt_of_portsApart hw hq ha⟩⟩⟩
  · rw [AddressSpace.addPort_some]
    exact if_pos hspace
  · rw [AddressSpace.addPort_of_fits b dir hsize hfits, if_pos ((AddressSpace.taken_iff b _ dir).mpr htaken)]
  · rw [AddressSpace.addPort_of_fits b dir hsize hfits, if_neg fun h => hfree ((AddressSpace.taken_iff b _ dir).mp h),
      AddressSpace.insert_eq]
  · simp [AddressSpace.removeDevice, AddressSpace.removeAt, AddressSpace.keepPorts]
  · obtain ⟨p, hfree, rfl⟩ := AddressSpace.addPort_ok hok
    exact insert_portsApart hfree hr hw
  · obtain ⟨hdr, hdw⟩ := keepPorts_portsApart (fun p => p.device != dev) hr hw
    obtain ⟨har, haw⟩ := keepPorts_portsApart (fun p => !p.contains a) hr hw
    exact ⟨hdr, hdw, har, haw⟩

end Sys2Proof.Machine
end

section
/-! PROOFS. The encoding (file 30): the row of each opcode byte and the bytes the encoder writes agree, and with it the
two directions of the round trip and the lengths (R300, R301, R303, R321, R402). -/

namespace Sys2Proof.Machine

/-! ## Rows and what the encoder writes (R300, R303, R321) -/

/-- The row gives the instruction `i`, and of every instruction that it gives the encoder writes the opcode byte `op`
and the operand bytes that the row's format reads. -/
inductive RowOf (op : Byte) : Instr → Row → Prop
  | f1 {i : Instr} (hl : lengthOf op = 1) (he : encode i = [op]) : RowOf op i (.f1 i)
  | f2 {mk : Byte → Instr} {b : Byte} (hl : lengthOf op = 2) (he : ∀ b, encode (mk b) = [op, b]) :
      RowOf op (mk b) (.f2 mk)
  | f3 {mk : Word → Instr} {w : Word} (hl : lengthOf op = 3) (he : ∀ w, encode (mk w) = [op, loByte w, hiByte w]) :
      RowOf op (mk w) (.f3 mk)

/-- The opcode map has every instruction at its opcode byte: the entry there says which format it is of. -/
theorem rowOf_rowAt (i : Instr) : RowOf i.opcode i (rowAt i.opcode) := by
  cases i <;> dsimp only [Instr.opcode] <;> constructor
  all_goals
    intros
    rfl

/-- Every byte is the opcode byte of the instruction it selects. -/
theorem instrAt_opcode (op : Byte) : (instrAt op 0 0).opcode = op := by
  revert op
  decide

/-- Every entry of the map is the row of some instruction. -/
theorem exists_rowOf (op : Byte) : ∃ i, RowOf op i (rowAt op) := by
  refine ⟨instrAt op 0 0, ?_⟩
  have h := rowOf_rowAt (instrAt op 0 0)
  rwa [instrAt_opcode] at h

/-! ## The decoder at each format (R300, R402) -/

section Formats
variable {op : Byte} {rest : List Byte}

theorem decode_f1 {i : Instr} (h : rowAt op = .f1 i) : decode (op :: rest) = .ok (i, rest) := by
  simp only [decode, h]

theorem decode_f2 {mk : Byte → Instr} {b : Byte} (h : rowAt op = .f2 mk) :
    decode (op :: b :: rest) = .ok (mk b, rest) := by
  simp only [decode, h]

theorem decode_f3 {mk : Word → Instr} {b1 b2 : Byte} (h : rowAt op = .f3 mk) :
    decode (op :: b1 :: b2 :: rest) = .ok (mk (joinBytes b2 b1), rest) := by
  simp only [decode, h]

theorem decode_f2_short {mk : Byte → Instr} (h : rowAt op = .f2 mk) : decode [op] = .error (.missingOperand op) := by
  simp only [decode, h]

theorem decode_f3_short {mk : Word → Instr} (h : rowAt op = .f3 mk) (hr : rest.length < 2) :
    decode (op :: rest) = .error (.missingOperand op) := by
  match rest, hr with
  | [], _ => simp only [decode, h]
  | [_], _ => simp only [decode, h]

end Formats

/-! ## Decoding what the encoder writes (R300, R301, R303) -/

theorem decode_encode (i : Instr) (rest : List Byte) : decode (encode i ++ rest) = .ok (i, rest) := by
  have hrow := rowOf_rowAt i
  generalize hr : rowAt i.opcode = r at hrow
  cases hrow with
  | f1 _ he =>
    rw [he]
    exact decode_f1 hr
  | f2 _ he =>
    rw [he]
    exact decode_f2 hr
  | @f3 mk w _ he =>
    rw [he]
    refine (decode_f3 hr).trans ?_
    rw [join_hi_lo]
    rfl

/-- Settles O1: the row of the opcode byte builds the instruction again. -/
theorem decodeOfEncodeIsTheInstruction : Obligations.DecodeOfEncodeIsTheInstruction := decode_encode

/-- Settles O4: each list is the encoding of its instruction. -/
theorem sampleWordsDecode : Obligations.SampleWordsDecode :=
  ⟨decode_encode (.ldaImm 0x10) [], decode_encode (.staAbs 0x0200) [], decode_encode (.incZp 0x10) [],
    decode_encode (.bne 0xF5) [], decode_encode (.jsrAbs 0x9000) [], decode_encode (.brk 0x7F) [],
    decode_encode (.jmpInd 0x02FF) [], decode_encode (.sloIzx 0x20) [], decode_encode .jam02 [],
    decode_encode (.shaAbsy 0x0200) []⟩

/-! ## What the decoder reads (R301, R402) -/

/-- Past an opcode byte the decoder either finds the operand bytes of an instruction, which the encoder writes again, or
has too few bytes. -/
theorem decode_cons_cases (op : Byte) (bytes : List Byte) :
    (∃ i operands rest, bytes = operands ++ rest ∧ operands.length + 1 = lengthOf op ∧ encode i = op :: operands ∧
      decode (op :: bytes) = .ok (i, rest)) ∨
    (bytes.length + 1 < lengthOf op ∧ decode (op :: bytes) = .error (.missingOperand op)) := by
  obtain ⟨j, hrow⟩ := exists_rowOf op
  generalize hr : rowAt op = r at hrow
  cases hrow with
  | f1 hl he => exact .inl ⟨j, [], bytes, rfl, hl.symm, he, decode_f1 hr⟩
  | @f2 mk _ hl he =>
    match bytes with
    | [] => exact .inr ⟨by simp [hl], decode_f2_short hr⟩
    | b :: rest => exact .inl ⟨mk b, [b], rest, rfl, hl.symm, he b, decode_f2 hr⟩
  | @f3 mk _ hl he =>
    match bytes with
    | [] | [_] => exact .inr ⟨by simp [hl], decode_f3_short hr (by simp)⟩
    | b1 :: b2 :: rest =>
      exact .inl ⟨mk (joinBytes b2 b1), [b1, b2], rest, rfl, hl.symm, by simp [he], decode_f3 hr⟩

/-- Settles O2: the bytes the decoder took are those the encoder writes. -/
theorem encodeOfDecodedIsTheBytes : Obligations.EncodeOfDecodedIsTheBytes := by
  intro bytes i rest h
  cases bytes with
  | nil => cases h
  | cons op bytes =>
    obtain ⟨i', operands, rest', rfl, -, he, hd⟩ | ⟨-, hd⟩ := decode_cons_cases op bytes
    · rw [hd] at h
      cases h
      rw [he, List.cons_append]
    · rw [hd] at h
      cases h

theorem lengthOf_bounds (op : Byte) : 1 ≤ lengthOf op ∧ lengthOf op ≤ 3 := by
  revert op
  decide

/-- Settles O3: of the decoder's two outcomes, the length of the opcode byte says which. -/
theorem everyOpcodeByteDecodesByItselfAlone : Obligations.EveryOpcodeByteDecodesByItselfAlone := by
  intro op bytes
  obtain ⟨hlo, hhi⟩ := lengthOf_bounds op
  refine ⟨hlo, hhi, ?_⟩
  obtain ⟨i, operands, rest, rfl, hl, he, hd⟩ | ⟨hshort, hd⟩ := decode_cons_cases op bytes
  · refine ⟨fun _ => ⟨i, ?_, (List.cons.inj he).1, by rw [he]; exact hl, ?_⟩, fun h => ?_⟩
    · rw [hd, List.drop_left' (by omega)]
    · rw [he]
      exact beq_iff_eq.mpr hl
    · rw [List.length_append] at h
      omega
  · exact ⟨fun h => by omega, fun _ => hd⟩

end Sys2Proof.Machine
end

section
/-! PROOFS. The cycle column of the opcode map (R321, R406, R450): what each bus access, addressing mode and class of
instruction takes of the clock when nothing makes the CPU skip (R1101, R1110, R1120). -/

namespace Sys2Proof.Machine

/-! ## Taking CPU cycles -/

/-- From a machine whose CPU has just had an activation and has no skip pending, `t` is the machine `n` CPU cycles
later, and its CPU is in that place again. -/
def Takes (n : Nat) (s t : State) : Prop :=
  s.sched.cpu = Receiver.fresh Config.cpuDiv → t.sched.cpu = Receiver.fresh Config.cpuDiv ∧
    t.sched.cpuCycles = s.sched.cpuCycles + n ∧ t.sched.masterTick = s.sched.masterTick + 12 * n

theorem Takes.refl (s : State) : Takes 0 s s := fun h => ⟨h, rfl, rfl⟩

theorem Takes.trans {m n : Nat} {s t u : State} (h : Takes m s t) (k : Takes n t u) : Takes (m + n) s u := by
  intro hs
  obtain ⟨ht, hc, hm⟩ := h hs
  obtain ⟨hu, hc', hm'⟩ := k ht
  exact ⟨hu, by omega, by omega⟩

/-- Work that leaves the scheduler alone takes no cycle. -/
theorem Takes.of_sched {n : Nat} {s t u : State} (h : Takes n s t) (hu : u.sched = t.sched) : Takes n s u := by
  unfold Takes
  rw [hu]
  exact h

theorem Takes.cast {m n : Nat} {s t : State} (h : Takes m s t) (hn : m = n) : Takes n s t := hn ▸ h

/-- A receiver at its divisor, without skips, is in that place. -/
theorem receiver_eq_fresh {r : Receiver} {n : Nat} (hdiv : r.divisor = n) (hcount : r.countdown = n)
    (hskip : r.skip = 0) : r = Receiver.fresh n := by
  obtain ⟨divisor, countdown, skip⟩ := r
  subst hdiv hskip
  exact congrArg (Receiver.mk divisor · 0) hcount

/-! ## The wait for an activation (R1101, R1110) -/

/-- The tick at which the CPU's countdown ends: it is activated and does its work. -/
theorem schedTick_last {c : Sched} (h : c.cpu = { divisor := Config.cpuDiv, countdown := 1, skip := 0 }) :
    c.tick.2.2 = true ∧ c.tick.1.cpu = Receiver.fresh Config.cpuDiv ∧ c.tick.1.cpuCycles = c.cpuCycles + 1 := by
  simp only [Sched.tick, h]
  exact ⟨rfl, rfl, rfl⟩

/-- Any tick before: the countdown goes on. -/
theorem schedTick_before {c : Sched} {k : Nat}
    (h : c.cpu = { divisor := Config.cpuDiv, countdown := k + 2, skip := 0 }) :
    c.tick.2.2 = false ∧ c.tick.1.cpu = { divisor := Config.cpuDiv, countdown := k + 1, skip := 0 } ∧
      c.tick.1.cpuCycles = c.cpuCycles := by
  have hd : c.cpu.deliver = ({ divisor := Config.cpuDiv, countdown := k + 1, skip := 0 }, false, false) := by
    rw [h]
    simp [Receiver.deliver, Receiver.tick]
  simp [Sched.tick, hd]

/-- As many ticks as the countdown says bring the CPU to one activation. -/
theorem awaitTicks_of_countdown (k : Nat) (s : State)
    (h : s.sched.cpu = { divisor := Config.cpuDiv, countdown := k + 1, skip := 0 }) :
    (awaitTicks (k + 1) s).sched.cpu = Receiver.fresh Config.cpuDiv ∧
      (awaitTicks (k + 1) s).sched.cpuCycles = s.sched.cpuCycles + 1 ∧
      (awaitTicks (k + 1) s).sched.masterTick = s.sched.masterTick + (k + 1) := by
  induction k generalizing s with
  | zero =>
    obtain ⟨-, -, -, -, -, hsched, hwork, -⟩ := tickBeforeCpu_same s
    obtain ⟨hlast, hcpu, hcycles⟩ := schedTick_last h
    rw [awaitTicks, if_pos (hwork.trans hlast), hsched]
    exact ⟨hcpu, hcycles, rfl⟩
  | succ k ih =>
    obtain ⟨-, -, -, -, -, hsched, hwork, -⟩ := tickBeforeCpu_same s
    obtain ⟨hbefore, hcpu, hcycles⟩ := schedTick_before h
    obtain ⟨hfresh, hcount, htick⟩ := ih s.tickBeforeCpu.1 (by rw [hsched]; exact hcpu)
    have hone : s.tickBeforeCpu.1.sched.masterTick = s.sched.masterTick + 1 := by rw [hsched]; rfl
    rw [awaitTicks, if_neg (by rw [hwork, hbefore]; decide)]
    refine ⟨hfresh, ?_, by omega⟩
    rw [hcount, hsched, hcycles]

theorem awaitCpu_takes (s : State) : Takes 1 s s.awaitCpu := by
  intro h
  have hn : s.sched.cpu.ticksToWork = 11 + 1 := by rw [h]; rfl
  unfold State.awaitCpu
  rw [hn]
  exact awaitTicks_of_countdown 11 s h

/-! ## Bus accesses -/

/-- A write at the address reaches the OAMDMA register (R1240). -/
def State.oamDmaAt (s : State) (a : Word) : Bool := (resolve s.cpuBus.writes s.devices a.toNat).isOamDma

theorem busRead_takes (a : Word) (s : State) : Takes 1 s (busRead a s).2 := by
  unfold busRead
  obtain ⟨-, -, -, hsched, -⟩ := cpuRead_same a s.awaitCpu
  exact (awaitCpu_takes s).of_sched hsched

/-- A write that starts no DMA leaves the scheduler alone. -/
theorem cpuWrite_sched {a : Word} {s : State} (v : Byte) (h : s.oamDmaAt a = false) :
    (cpuWrite a v s).sched = s.sched := by
  unfold State.oamDmaAt at h
  obtain ⟨-, -, -, hsched, -⟩ := writeDevice_same v (resolve s.cpuBus.writes s.devices a.toNat) s
  unfold cpuWrite State.writeTarget
  rw [h]
  exact hsched

theorem busWrite_takes {a : Word} {s : State} (v : Byte) (h : s.oamDmaAt a = false) : Takes 1 s (busWrite a v s) := by
  unfold busWrite
  refine (awaitCpu_takes s).of_sched (cpuWrite_sched v ?_)
  unfold State.oamDmaAt
  rw [awaitCpu_cpuBus, awaitCpu_devices]
  exact h

/-! ## No access moves the OAMDMA register -/

/-- What an address reaches is of the same kind after a store into some device. -/
theorem isOamDma_resolve_store {devs : List Device} {id : Nat} {d : Device} (hd : devs[id]? = some d)
    (ports : List Port) (off : Nat) (v : Byte) (addr : Nat) :
    (resolve ports (devs.set id (d.store off v)) addr).isOamDma = (resolve ports devs addr).isOamDma := by
  unfold resolve
  cases portAt ports addr with
  | none => rfl
  | some p =>
    dsimp only
    by_cases hp : id = p.device
    · subst hp
      have hlt : p.device < devs.length := (List.getElem?_eq_some_iff.mp hd).1
      rw [List.getElem?_set_self hlt, hd]
      by_cases hvalid : d.valid = true
      · by_cases hsize : addr - p.base < d.size <;> simp [hvalid, hsize, Target.isOamDma]
      · simp [hvalid]
    · rw [List.getElem?_set_ne hp]

/-- The devices after a CPU write: the same, but for a store into one of them (R206, R211). -/
theorem cpuWrite_devices_cases (a : Word) (v : Byte) (s : State) : (cpuWrite a v s).devices = s.devices ∨
    ∃ id d off, s.devices[id]? = some d ∧ (cpuWrite a v s).devices = s.devices.set id (d.store off v) := by
  have hstore (ports : List Port) (addr : Nat) : storeTarget s.devices v (resolve ports s.devices addr) = s.devices ∨
      ∃ id d off, s.devices[id]? = some d ∧
        storeTarget s.devices v (resolve ports s.devices addr) = s.devices.set id (d.store off v) := by
    obtain ⟨h, -⟩ | ⟨id, d, off, -, -, hd, h⟩ := storeTarget_cases ports s.devices addr v
    · exact .inl h
    · exact .inr ⟨id, d, off, hd, h⟩
  rw [cpuWrite_devices]
  cases ht : resolve s.cpuBus.writes s.devices a.toNat with
  | absent => exact .inl rfl
  | pastDevice => exact .inl rfl
  | hit id d off =>
    by_cases hk : d.kind = .ppuRegisters
    · rw [writeDevice_register hk]
      split
      · exact hstore _ _
      · exact .inl rfl
    · rw [writeDevice_other hk, ← ht]
      exact hstore _ _

theorem busWrite_oamDmaAt (a b : Word) (v : Byte) (s : State) : (busWrite a v s).oamDmaAt b = s.oamDmaAt b := by
  have hports := (busWrite_kept a v s).cpuBus.writes
  unfold State.oamDmaAt
  rw [hports]
  unfold busWrite
  obtain h | ⟨id, d, off, hd, h⟩ := cpuWrite_devices_cases a v s.awaitCpu
  · rw [h, awaitCpu_devices]
  · rw [h, awaitCpu_devices]
    rw [awaitCpu_devices] at hd
    exact isOamDma_resolve_store hd _ off v _

theorem ReadsOnly.oamDmaAt {s t : State} (h : ReadsOnly s t) (b : Word) : t.oamDmaAt b = s.oamDmaAt b := by
  obtain ⟨hdevices, -, ⟨-, -, hwrites, -⟩, -⟩ := h
  unfold State.oamDmaAt
  rw [hdevices, hwrites]

theorem busRead_oamDmaAt (a b : Word) (s : State) : (busRead a s).2.oamDmaAt b = s.oamDmaAt b :=
  (busRead_readsOnly a s).oamDmaAt b

/-! ## The accesses of the modes (R420 to R442) -/

theorem readPointer_takes (b : Byte) (s : State) : Takes 2 s (readPointer b s).2 :=
  (busRead_takes _ s).trans (busRead_takes _ _)

/-- The accesses of a mode before the class sequence of the write and rmw classes. -/
def addressCycles : Mode → Nat
  | .zpx | .zpy | .absx | .absy => 1
  | .izx | .izy => 3
  | _ => 0

theorem addressPhase_takes (m : Mode) (w : Word) (s : State) : Takes (addressCycles m) s (addressPhase m w s).2 := by
  cases m
  case zpx | zpy | absx | absy => exact busRead_takes _ s
  case izx => exact (busRead_takes _ s).trans (readPointer_takes _ _)
  case izy => exact (readPointer_takes _ s).trans (busRead_takes _ _)
  all_goals exact Takes.refl s

/-- The accesses of the read class in a mode when no index carries. -/
def readCycles : Mode → Nat
  | .imm => 0
  | .absx | .absy => 1
  | .izy => 3
  | m => addressCycles m + 1

/-- The access more that the read class makes in an indexed mode when the index carries (R406, R432, R441). -/
def pageCycles (m : Mode) (w : Word) (s : State) : Nat :=
  match m with
  | .absx => flagNat (crossesPage w s.cpu.x)
  | .absy => flagNat (crossesPage w s.cpu.y)
  | .izy => flagNat (crossesPage (readPointer (loByte w) s).1 s.cpu.y)
  | _ => 0

theorem readIndexed_takes (w : Word) (x : Byte) (s : State) :
    Takes (1 + flagNat (crossesPage w x)) s (readIndexed w x s).2 := by
  unfold readIndexed
  cases crossesPage w x with
  | true => exact (busRead_takes _ s).trans (busRead_takes _ _)
  | false => exact busRead_takes _ s

theorem readPhase_takes (m : Mode) (w : Word) (s : State) :
    Takes (readCycles m + pageCycles m w s) s (readPhase m w s).2 := by
  cases m
  case imm => exact Takes.refl s
  case absx | absy => exact readIndexed_takes _ _ s
  case izy => exact ((readPointer_takes _ s).trans (readIndexed_takes _ _ _)).cast (Nat.add_assoc 2 1 _).symm
  all_goals exact (addressPhase_takes _ w s).trans (busRead_takes _ _)

theorem rmwPhase_takes {ea : Word} {s : State} (new : Byte → Byte) (h : s.oamDmaAt ea = false) :
    Takes 3 s (rmwPhase ea new s) :=
  ((busRead_takes ea s).trans (busWrite_takes _ ((busRead_oamDmaAt ea ea s).trans h))).trans
    (busWrite_takes _ ((busWrite_oamDmaAt ea ea _ _).trans ((busRead_oamDmaAt ea ea s).trans h)))

/-! ## Sequences of reads -/

/-- A cycle that does not end its sequence and leaves the scheduler to the wait before it. -/
def Cycle.Steady (c : Cycle) : Prop := ∀ s, (c s).2 = false ∧ (c s).1.sched = s.sched

@[simp] theorem readCycle_steady (a : Cpu → Word) (k : Byte → Cpu → Cpu) : Cycle.Steady (readCycle a k) := by
  intro s
  obtain ⟨-, -, -, hsched, -⟩ := cpuRead_same (a s.cpu) s
  exact ⟨rfl, hsched⟩

@[simp] theorem dummyReadPc_steady : Cycle.Steady dummyReadPc := readCycle_steady _ _
@[simp] theorem pullCycle_steady (k : Byte → Cpu → Cpu) : Cycle.Steady (pullCycle k) := readCycle_steady _ _
@[simp] theorem pullDummy_steady : Cycle.Steady pullDummy := pullCycle_steady _

/-- A list of such cycles. -/
def CyclesSteady (cs : List Cycle) : Prop := ∀ c ∈ cs, Cycle.Steady c

@[simp] theorem cyclesSteady_nil : CyclesSteady [] := fun _ hc => absurd hc List.not_mem_nil

@[simp] theorem cyclesSteady_cons (c : Cycle) (cs : List Cycle) :
    CyclesSteady (c :: cs) ↔ Cycle.Steady c ∧ CyclesSteady cs := List.forall_mem_cons

theorem cyclesSteady_replicate (n : Nat) : CyclesSteady (List.replicate n dummyReadPc) := by
  intro c hc
  rw [List.eq_of_mem_replicate hc]
  exact dummyReadPc_steady

theorem dummyReadPc_cyclesSteady : CyclesSteady [dummyReadPc] := by simp
theorem pullVal_cyclesSteady : CyclesSteady pullVal := by simp [pullVal]
theorem indirectCycles_cyclesSteady : CyclesSteady indirectCycles := by simp [indirectCycles]
theorem rtsCycles_cyclesSteady : CyclesSteady rtsCycles := by simp [rtsCycles]
theorem rtiCycles_cyclesSteady : CyclesSteady (dummyReadPc :: returnFromException) := by simp [returnFromException]

/-- Each cycle of such a list waits for one activation. -/
theorem runCycles_takes {cs : List Cycle} (h : CyclesSteady cs) (s : State) :
    Takes cs.length s (runCycles cs s) := by
  induction cs generalizing s with
  | nil => exact Takes.refl s
  | cons c cs ih =>
    obtain ⟨hc, hcs⟩ := (cyclesSteady_cons c cs).mp h
    obtain ⟨hgo, hsched⟩ := hc s.awaitCpu
    have hone : Takes 1 s (runCycle c s.awaitCpu).1 := (awaitCpu_takes s).of_sched hsched
    rw [runCycles, show (runCycle c s.awaitCpu).2 = false from hgo, if_neg Bool.false_ne_true]
    exact (hone.trans (ih hcs _)).cast (Nat.add_comm 1 _)

/-! ## The cycles of an instruction -/

/-- The machine after the cycles and the operation of an instruction, before the end of its last cycle (R401, R403). -/
def afterCycles (i : Instr) (s : State) : State :=
  (programOf i).rest (s.mapCpu (latchAll (programOf i).operands i.operandBytes))

theorem afterCycles_plain {i : Instr} {ops : List (Byte → Cpu → Cpu)} {body : List Cycle} {f : State → State}
    (hp : programOf i = plain ops body f) (s : State) :
    afterCycles i s = f (runCycles body (s.setCpu (latchAll ops i.operandBytes s.cpu))) := by
  unfold afterCycles
  rw [hp, plain_rest]
  rfl

/-- After its fetch the instruction takes the rest of the cycle column with its terms (R321). -/
def TakesColumn (i : Instr) (s : State) : Prop :=
  ∃ n, n + fetchedBytes i = i.baseCycles + extraCycles i s ∧ Takes n s (afterCycles i s)

/-- A ready machine comes to the end of R403, which leaves the scheduler alone. -/
theorem exec_next {s : State} (i : Instr) (hs : s.ready = true) :
    ∃ t, exec i s = .next t ∧ t.sched = (afterCycles i s).sched := by
  have hkept : SafeKept s (afterCycles i s) :=
    ((SafeKept.refl s).mapCpu _).trans (rest_safeKept (programOf_keepsSafe i) _)
  obtain ⟨t, ht, hends⟩ := exec_ends (i := i) (s := s) (M := afterCycles i s) rfl (hkept.kept.ready hs)
  obtain ⟨-, -, -, -, -, -, -, hsched, -⟩ := hends
  exact ⟨t, ht, hsched⟩

section Classes
variable {i : Instr} {w : Word} {s : State}

/-- The read class: the accesses of the mode, and the page term where the index carries (R405, R406). -/
theorem read_takesColumn {op : Byte → Cpu → Cpu} (hp : ReadsAs (programOf i) i.operandBytes i.mode w op)
    (hw : operandWord i = w) (hbase : readCycles i.mode + fetchedBytes i = i.baseCycles)
    (hextra : extraCycles i s = pageCycles i.mode (operandWord i) s) : TakesColumn i s := by
  subst hw
  obtain ⟨c, -, h⟩ := hp s
  refine ⟨readCycles i.mode + pageCycles i.mode (operandWord i) s, by omega, ?_⟩
  unfold afterCycles
  rw [h]
  exact readPhase_takes _ _ s

theorem addressPhase_oamDmaAt (m : Mode) (w : Word) (s : State) (b : Word) :
    (addressPhase m w s).2.oamDmaAt b = s.oamDmaAt b := (addressPhase_readsOnly m w s).oamDmaAt b

/-- The write class: the accesses of the mode and the write (R405). -/
theorem write_takesColumn {r : Cpu → Byte} (hp : WritesAs (programOf i) i.operandBytes i.mode w r)
    (hw : operandWord i = w) (hbase : addressCycles i.mode + 1 + fetchedBytes i = i.baseCycles)
    (hextra : extraCycles i s = 0) (hwrites : writeAddresses i s = [(addressPhase i.mode (operandWord i) s).1])
    (hdma : ∀ a ∈ writeAddresses i s, s.oamDmaAt a = false) : TakesColumn i s := by
  subst hw
  obtain ⟨c, d, -, -, h⟩ := hp s
  rw [hwrites, List.forall_mem_singleton] at hdma
  refine ⟨addressCycles i.mode + 1, by omega, ?_⟩
  unfold afterCycles
  rw [h]
  exact (addressPhase_takes _ _ s).trans (busWrite_takes _ ((addressPhase_oamDmaAt _ _ s _).trans hdma))

/-- The rmw class: the accesses of the mode, the read and the two writes (R405). -/
theorem rmw_takesColumn {new : Byte → Cpu → Byte} {op : Byte → Cpu → Cpu}
    (hp : ModifiesAs (programOf i) i.operandBytes i.mode w new op)
    (hw : operandWord i = w) (hbase : addressCycles i.mode + 3 + fetchedBytes i = i.baseCycles)
    (hextra : extraCycles i s = 0) (hwrites : writeAddresses i s = [(addressPhase i.mode (operandWord i) s).1])
    (hdma : ∀ a ∈ writeAddresses i s, s.oamDmaAt a = false) : TakesColumn i s := by
  subst hw
  obtain ⟨c, d, -, -, h⟩ := hp s
  rw [hwrites, List.forall_mem_singleton] at hdma
  refine ⟨addressCycles i.mode + 3, by omega, ?_⟩
  unfold afterCycles
  rw [h]
  exact (addressPhase_takes _ _ s).trans (rmwPhase_takes _ ((addressPhase_oamDmaAt _ _ s _).trans hdma))

/-- A program of reads only, whose cycles are always all made. -/
theorem reads_takesColumn {body : List Cycle} (hreads : CyclesSteady body) (hbody : (programOf i).body = body)
    (hskip : ∀ c, (programOf i).skip c = false) (hfinish : ∀ t, ((programOf i).finish t).sched = t.sched)
    (hbase : body.length + fetchedBytes i = i.baseCycles) (hextra : extraCycles i s = 0) : TakesColumn i s := by
  refine ⟨body.length, by omega, ?_⟩
  unfold afterCycles Program.rest
  rw [hskip, hbody, if_neg Bool.false_ne_true]
  exact Takes.of_sched (runCycles_takes hreads (s.mapCpu _)) (hfinish _)

/-- The fallback class: dummy reads (R820). -/
theorem fallback_takesColumn {opcode : Byte} {length cycles : Nat} (hp : programOf i = fallback opcode length cycles)
    (hbase : cycles - length + fetchedBytes i = i.baseCycles) (hextra : extraCycles i s = 0) : TakesColumn i s := by
  refine reads_takesColumn (cyclesSteady_replicate (cycles - length)) ?_ ?_ ?_ ?_ hextra
  · rw [hp]
    rfl
  · rw [hp]
    exact fun _ => rfl
  · rw [hp]
    exact fun _ => rfl
  · rw [List.length_replicate, hbase]

/-- A branch: no cycle more when it falls through, one when it stays in its page, two when it leaves it (R450). -/
theorem branch_takesColumn {cond : Flags → Bool} {b : Byte} (hp : programOf i = branch cond)
    (hops : i.operandBytes = [b]) (hmode : i.mode = .rel) (htaken : branchTaken i s.cpu.p = cond s.cpu.p)
    (hbase : fetchedBytes i = i.baseCycles) : TakesColumn i s := by
  have hoffset : loByte (operandWord i) = b := by simp [operandWord, hops]
  have hrest : afterCycles i s = if (!cond s.cpu.p) = true then s.setCpu (latchOffset b s.cpu)
      else runCycles [branchT3, branchT4] (s.setCpu (latchOffset b s.cpu)) := by
    unfold afterCycles
    rw [hp, hops]
    rfl
  have hcrosses : (hiByte (s.cpu.pc + signExtend16 b) != hiByte s.cpu.pc) = branchCrosses (latchOffset b s.cpu) := rfl
  unfold TakesColumn extraCycles
  simp only [hmode, htaken, hoffset, hcrosses, hrest]
  cases cond s.cpu.p with
  | false => exact ⟨0, by simp [hbase], Takes.refl s⟩
  | true =>
    cases hc : branchCrosses (latchOffset b s.cpu) with
    | false =>
      refine ⟨1, by simp [hbase, flagNat]; omega, ?_⟩
      rw [if_neg (by decide), runCycles_branchT3_done _ _ _ hc]
      exact busRead_takes _ s
    | true =>
      refine ⟨2, by simp [hbase, flagNat]; omega, ?_⟩
      unfold branchT4
      rw [if_neg (by decide), runCycles_branchT3_cross _ _ _ hc, runCycles_read, runCycles_nil]
      exact (busRead_takes _ s).trans (busRead_takes _ _)

/-! ### The instructions that push (R102, R513, R514, R712, R714) -/

theorem runCycles_push (v : Cpu → Byte) (cs : List Cycle) (M : State) (c : Cpu) :
    runCycles (pushCycle v :: cs) (M.setCpu c) = runCycles cs ((pushAt c.s (v c) M).setCpu c.decS.nextCycle) :=
  runCycles_write _ _ _ cs M c

theorem pushAt_takes {sp : Byte} (v : Byte) (h : s.oamDmaAt (stackAddr sp) = false) : Takes 1 s (pushAt sp v s) :=
  busWrite_takes v h

theorem pushAt_oamDmaAt (sp v : Byte) (s : State) (b : Word) : (pushAt sp v s).oamDmaAt b = s.oamDmaAt b :=
  busWrite_oamDmaAt _ b v s

/-- PHA and PHP: a dummy read and the push. -/
theorem push_takesColumn {v : Cpu → Byte} (hp : programOf i = plain [] [dummyReadPc, pushCycle v] id)
    (hops : i.operandBytes = []) (hbase : 2 + fetchedBytes i = i.baseCycles) (hextra : extraCycles i s = 0)
    (hwrites : writeAddresses i s = [stackAddr s.cpu.s])
    (hdma : ∀ a ∈ writeAddresses i s, s.oamDmaAt a = false) : TakesColumn i s := by
  rw [hwrites, List.forall_mem_singleton] at hdma
  refine ⟨2, by omega, ?_⟩
  rw [afterCycles_plain hp, hops]
  unfold dummyReadPc dummyRead
  rw [runCycles_read, runCycles_push, runCycles_nil]
  exact (busRead_takes _ s).trans (pushAt_takes _ ((busRead_oamDmaAt _ _ s).trans hdma))

theorem jsr_takesColumn (w : Word) (s : State)
    (hdma : ∀ a ∈ writeAddresses (.jsrAbs w) s, s.oamDmaAt a = false) : TakesColumn (.jsrAbs w) s := by
  obtain ⟨h0, h1⟩ : s.oamDmaAt (stackAddr s.cpu.s) = false ∧ s.oamDmaAt (stackAddr (s.cpu.s - 1)) = false := by
    simpa [writeAddresses] using hdma
  refine ⟨4, rfl, ?_⟩
  rw [afterCycles_plain (ops := [latchLo]) (body := jsrCycles) (f := id) rfl]
  unfold jsrCycles dummyRead
  rw [runCycles_read, runCycles_push, runCycles_push, runCycles_read, runCycles_nil]
  refine (((busRead_takes _ s).trans (pushAt_takes _ ?_)).trans (pushAt_takes _ ?_)).trans (busRead_takes _ _)
  · rw [busRead_oamDmaAt]
    exact h0
  · rw [pushAt_oamDmaAt, busRead_oamDmaAt]
    exact h1

theorem brk_takesColumn (b : Byte) (s : State)
    (hdma : ∀ a ∈ writeAddresses (.brk b) s, s.oamDmaAt a = false) : TakesColumn (.brk b) s := by
  obtain ⟨h0, h1, h2⟩ : s.oamDmaAt (stackAddr s.cpu.s) = false ∧ s.oamDmaAt (stackAddr (s.cpu.s - 1)) = false ∧
      s.oamDmaAt (stackAddr (s.cpu.s - 2)) = false := by
    simpa [writeAddresses] using hdma
  refine ⟨5, rfl, ?_⟩
  rw [afterCycles_plain (ops := [latchLo]) (body := takeException vectorIrq Flags.pushedBySoftware) (f := id) rfl]
  unfold takeException vectorCycles
  simp only [List.cons_append, List.nil_append]
  rw [runCycles_push, runCycles_push, runCycles_push, runCycles_read, runCycles_read, runCycles_nil]
  refine ((((pushAt_takes _ h0).trans (pushAt_takes _ ?_)).trans (pushAt_takes _ ?_)).trans (busRead_takes _ _)).trans
    (busRead_takes _ _)
  · rw [pushAt_oamDmaAt]
    exact h1
  · have hs : s.cpu.s - 1 - 1 = s.cpu.s - 2 := by bv_omega
    rw [pushAt_oamDmaAt, pushAt_oamDmaAt]
    rw [← hs] at h2
    exact h2

end Classes

/-! ## The opcode map (R321) -/

/-- Every instruction takes what its row says, since its program is of one of the forms above. -/
theorem takesColumn (i : Instr) (s : State) (hdma : ∀ a ∈ writeAddresses i s, s.oamDmaAt a = false) :
    TakesColumn i s := by
  cases i
  case clc | nopImp1A | sec | nopImp3A | nopImp5A | nopImp7A | dey | txa | tya | txs | tay | tax | clv | tsx
      | iny | dex | cld | nopImpDA | inx | nop | sed | nopImpFA | cli | sei | aslAcc | rolAcc | lsrAcc | rorAcc =>
    exact reads_takesColumn dummyReadPc_cyclesSteady rfl (fun _ => rfl) (fun _ => rfl) rfl rfl
  case oraImm | anc0B | andImm | anc2B | eorImm | alrImm | arrImm | nopImm80 | nopImm82 | nopImm89 | ldyImm
      | ldxImm | ldaImm | cpyImm | nopImmC2 | cmpImm | sbxImm | cpxImm | nopImmE2 =>
    exact read_takesColumn (immRead_as _ _) rfl rfl rfl
  case adcImm | sbcImm | usbcImm => exact read_takesColumn (immRead_as _ _).decimally rfl rfl rfl
  case nopZp04 | oraZp | bitZp | andZp | nopZp44 | eorZp | nopZp64 | ldyZp | ldaZp | ldxZp | laxZp | cpyZp
      | cmpZp | cpxZp => exact read_takesColumn (zpRead_as _ _) rfl rfl rfl
  case adcZp | sbcZp => exact read_takesColumn (zpRead_as _ _).decimally rfl rfl rfl
  case nopZpx14 | oraZpx | nopZpx34 | andZpx | nopZpx54 | eorZpx | nopZpx74 | ldyZpx | ldaZpx | nopZpxD4
      | cmpZpx | nopZpxF4 => exact read_takesColumn (zpxRead_as _ _) rfl rfl rfl
  case adcZpx | sbcZpx => exact read_takesColumn (zpxRead_as _ _).decimally rfl rfl rfl
  case ldxZpy | laxZpy => exact read_takesColumn (zpyRead_as _ _) rfl rfl rfl
  case nopAbs | oraAbs | bitAbs | andAbs | eorAbs | ldyAbs | ldaAbs | ldxAbs | laxAbs | cpyAbs | cmpAbs | cpxAbs =>
    exact read_takesColumn (absRead_as _ _) (join_hi_lo _) rfl rfl
  case adcAbs | sbcAbs => exact read_takesColumn (absRead_as _ _).decimally (join_hi_lo _) rfl rfl
  case nopAbsx1C | oraAbsx | nopAbsx3C | andAbsx | nopAbsx5C | eorAbsx | nopAbsx7C | ldyAbsx | ldaAbsx
      | nopAbsxDC | cmpAbsx | nopAbsxFC => exact read_takesColumn (absxRead_as _ _) (join_hi_lo _) rfl rfl
  case adcAbsx | sbcAbsx => exact read_takesColumn (absxRead_as _ _).decimally (join_hi_lo _) rfl rfl
  case oraAbsy | andAbsy | eorAbsy | ldaAbsy | lasAbsy | ldxAbsy | laxAbsy | cmpAbsy =>
    exact read_takesColumn (absyRead_as _ _) (join_hi_lo _) rfl rfl
  case adcAbsy | sbcAbsy => exact read_takesColumn (absyRead_as _ _).decimally (join_hi_lo _) rfl rfl
  case oraIzx | andIzx | eorIzx | ldaIzx | laxIzx | cmpIzx => exact read_takesColumn (izxRead_as _ _) rfl rfl rfl
  case adcIzx | sbcIzx => exact read_takesColumn (izxRead_as _ _).decimally rfl rfl rfl
  case oraIzy | andIzy | eorIzy | ldaIzy | laxIzy | cmpIzy => exact read_takesColumn (izyRead_as _ _) rfl rfl rfl
  case adcIzy | sbcIzy => exact read_takesColumn (izyRead_as _ _).decimally rfl rfl rfl
  case styZp | staZp | stxZp | saxZp => exact write_takesColumn (zpWrite_as _ _) rfl rfl rfl rfl hdma
  case styZpx | staZpx => exact write_takesColumn (zpxWrite_as _ _) rfl rfl rfl rfl hdma
  case stxZpy | saxZpy => exact write_takesColumn (zpyWrite_as _ _) rfl rfl rfl rfl hdma
  case styAbs | staAbs | stxAbs | saxAbs => exact write_takesColumn (absWrite_as _ _) (join_hi_lo _) rfl rfl rfl hdma
  case staAbsx => exact write_takesColumn (absxWrite_as _ _) (join_hi_lo _) rfl rfl rfl hdma
  case staAbsy => exact write_takesColumn (absyWrite_as _ _) (join_hi_lo _) rfl rfl rfl hdma
  case staIzx | saxIzx => exact write_takesColumn (izxWrite_as _ _) rfl rfl rfl rfl hdma
  case staIzy => exact write_takesColumn (izyWrite_as _ _) rfl rfl rfl rfl hdma
  case aslZp | sloZp | rolZp | rlaZp | lsrZp | sreZp | rorZp | decZp | dcpZp | incZp =>
    exact rmw_takesColumn (zpRmw_as _ _ _) rfl rfl rfl rfl hdma
  case rraZp | iscZp => exact rmw_takesColumn (zpRmw_as _ _ _).decimally rfl rfl rfl rfl hdma
  case aslZpx | sloZpx | rolZpx | rlaZpx | lsrZpx | sreZpx | rorZpx | decZpx | dcpZpx | incZpx =>
    exact rmw_takesColumn (zpxRmw_as _ _ _) rfl rfl rfl rfl hdma
  case rraZpx | iscZpx => exact rmw_takesColumn (zpxRmw_as _ _ _).decimally rfl rfl rfl rfl hdma
  case aslAbs | sloAbs | rolAbs | rlaAbs | lsrAbs | sreAbs | rorAbs | decAbs | dcpAbs | incAbs =>
    exact rmw_takesColumn (absRmw_as _ _ _) (join_hi_lo _) rfl rfl rfl hdma
  case rraAbs | iscAbs => exact rmw_takesColumn (absRmw_as _ _ _).decimally (join_hi_lo _) rfl rfl rfl hdma
  case aslAbsx | sloAbsx | rolAbsx | rlaAbsx | lsrAbsx | sreAbsx | rorAbsx | decAbsx | dcpAbsx | incAbsx =>
    exact rmw_takesColumn (absxRmw_as _ _ _) (join_hi_lo _) rfl rfl rfl hdma
  case rraAbsx | iscAbsx => exact rmw_takesColumn (absxRmw_as _ _ _).decimally (join_hi_lo _) rfl rfl rfl hdma
  case sloAbsy | rlaAbsy | sreAbsy | dcpAbsy => exact rmw_takesColumn (absyRmw_as _ _ _) (join_hi_lo _) rfl rfl rfl hdma
  case rraAbsy | iscAbsy => exact rmw_takesColumn (absyRmw_as _ _ _).decimally (join_hi_lo _) rfl rfl rfl hdma
  case sloIzx | rlaIzx | sreIzx | dcpIzx => exact rmw_takesColumn (izxRmw_as _ _ _) rfl rfl rfl rfl hdma
  case rraIzx | iscIzx => exact rmw_takesColumn (izxRmw_as _ _ _).decimally rfl rfl rfl rfl hdma
  case sloIzy | rlaIzy | sreIzy | dcpIzy => exact rmw_takesColumn (izyRmw_as _ _ _) rfl rfl rfl rfl hdma
  case rraIzy | iscIzy => exact rmw_takesColumn (izyRmw_as _ _ _).decimally rfl rfl rfl rfl hdma
  case bmi | bvs | bcs | beq | bpl | bvc | bcc | bne => exact branch_takesColumn rfl rfl rfl rfl rfl
  case jam02 | jam12 | jam22 | jam32 | jam42 | jam52 | jam62 | jam72 | aneImm | jam92 | shaIzy | tasAbsy
      | shyAbsx | shxAbsy | shaAbsy | lxaImm | jamB2 | jamD2 | jamF2 => exact fallback_takesColumn rfl rfl rfl
  case jmpAbs => exact reads_takesColumn cyclesSteady_nil rfl (fun _ => rfl) (fun _ => rfl) rfl rfl
  case jmpInd => exact reads_takesColumn indirectCycles_cyclesSteady rfl (fun _ => rfl) (fun _ => rfl) rfl rfl
  case rts => exact reads_takesColumn rtsCycles_cyclesSteady rfl (fun _ => rfl) (fun _ => rfl) rfl rfl
  case rti => exact reads_takesColumn rtiCycles_cyclesSteady rfl (fun _ => rfl) (fun _ => rfl) rfl rfl
  case pla | plp => exact reads_takesColumn pullVal_cyclesSteady rfl (fun _ => rfl) (fun _ => rfl) rfl rfl
  case pha | php => exact push_takesColumn rfl rfl rfl rfl rfl hdma
  case jsrAbs w => exact jsr_takesColumn w s hdma
  case brk b => exact brk_takesColumn b s hdma

/-- Settles O11: the cycles of the class and mode are those of the row, and no write of them starts a DMA. -/
theorem cyclesAreTheTablesColumn : Obligations.CyclesAreTheTablesColumn := by
  intro i s hready hwf hskip hcount hdma
  obtain ⟨-, -, hdiv, -, -⟩ := (sched_wf_iff s.sched).mp hwf
  have hfresh := receiver_eq_fresh hdiv hcount hskip
  obtain ⟨t, ht, hsched⟩ := exec_next i hready
  obtain ⟨n, hn, htakes⟩ := takesColumn i s hdma
  obtain ⟨hcpu, hcycles, htick⟩ := htakes hfresh
  rw [← hsched] at hcpu hcycles htick
  exact ⟨t, ht, by omega, by omega, by rw [hcpu]; rfl, by rw [hcpu]; rfl⟩

end Sys2Proof.Machine
end

section
/-! PROOFS. Execution and addressing (file 40): the branches (R450, R700), the completion of every instruction (R403,
R820), the fetch (R401, R402), and the step as the master ticks it spans (R400, R1110, R1121). -/

namespace Sys2Proof.Machine

/-! ## Branches (R450, R700) -/

/-- What R450 says of a branch with the offset byte `b`, from `s` to `t`. -/
def BranchEnds (b : Byte) (s : State) (taken : Bool) (t : State) : Prop :=
  let target : Word := s.cpu.pc + b.signExtend 16
  let s1 := (busRead s.cpu.pc s).2
  let s2 := (busRead (joinBytes (hiByte s.cpu.pc) (loByte target)) s1).2
  ReadsOnly s t
    ∧ (taken = false → Ends false s s.cpu.regs t)
    ∧ (taken = true → hiByte target = hiByte s.cpu.pc → Ends false s1 { s.cpu.regs with pc := target } t)
    ∧ (taken = true → hiByte target ≠ hiByte s.cpu.pc → Ends false s2 { s.cpu.regs with pc := target } t)

@[simp] theorem latchOffset_regs (b : Byte) (c : Cpu) : (latchOffset b c).regs = c.regs := rfl
@[simp] theorem latchOffset_pc (b : Byte) (c : Cpu) : (latchOffset b c).pc = c.pc := rfl
@[simp] theorem latchOffset_offset (b : Byte) (c : Cpu) : (latchOffset b c).offset = b := rfl
@[simp] theorem Cpu.setPc_regs (c : Cpu) (a : Word) : (c.setPc a).regs = { c.regs with pc := a } := rfl

section Branch
variable {i : Instr} {cond : Flags → Bool} {b : Byte} {s : State}
  (hp : programOf i = branch cond) (hops : i.operandBytes = [b])
include hp

/-- A branch whose cycles come to the machine `M` and registers `g` answers the end of R403 over them. -/
theorem branch_exec_ends {M : State} {g : Regs} (h : ∃ c : Cpu, c.regs = g ∧ afterCycles i s = M.setCpu c)
    (hM : M.ready = true) : ∃ t, exec i s = .next t ∧ Ends false M g t := by
  obtain ⟨c, rfl, h⟩ := h
  have hinhibit : (programOf i).inhibit = false := by rw [hp]; rfl
  rw [← hinhibit]
  exact exec_ends h hM

include hops

theorem afterCycles_branch : afterCycles i s = if (!cond s.cpu.p) = true then s.setCpu (latchOffset b s.cpu)
    else runCycles [branchT3, branchT4] (s.setCpu (latchOffset b s.cpu)) := by
  unfold afterCycles
  rw [hp, hops]
  rfl

theorem branch_not_taken (h : cond s.cpu.p = false) : ∃ c : Cpu, c.regs = s.cpu.regs ∧ afterCycles i s = s.setCpu c :=
  ⟨latchOffset b s.cpu, rfl, by rw [afterCycles_branch hp hops, h]; rfl⟩

theorem branch_in_page (h : cond s.cpu.p = true) (hpage : hiByte (s.cpu.pc + b.signExtend 16) = hiByte s.cpu.pc) :
    ∃ c : Cpu, c.regs = { s.cpu.regs with pc := s.cpu.pc + b.signExtend 16 } ∧
      afterCycles i s = (busRead s.cpu.pc s).2.setCpu c := by
  have hcrosses : branchCrosses (latchOffset b s.cpu) = false := by
    simpa [branchCrosses, branchTarget, signExtend16] using hpage
  rw [afterCycles_branch hp hops, h, if_neg (by decide), runCycles_branchT3_done _ _ _ hcrosses, latchOffset_pc]
  exact ⟨_, by simp [branchTarget, signExtend16], rfl⟩

theorem branch_across_page (h : cond s.cpu.p = true) (hpage : hiByte (s.cpu.pc + b.signExtend 16) ≠ hiByte s.cpu.pc) :
    ∃ c : Cpu, c.regs = { s.cpu.regs with pc := s.cpu.pc + b.signExtend 16 } ∧ afterCycles i s =
      (busRead (joinBytes (hiByte s.cpu.pc) (loByte (s.cpu.pc + b.signExtend 16)))
        (busRead s.cpu.pc s).2).2.setCpu c := by
  have hcrosses : branchCrosses (latchOffset b s.cpu) = true := by
    simpa [branchCrosses, branchTarget, signExtend16] using hpage
  rw [afterCycles_branch hp hops, h, if_neg (by decide), runCycles_branchT3_cross _ _ _ hcrosses]
  unfold branchT4
  rw [runCycles_read, runCycles_nil]
  simp only [branchTarget, signExtend16, Cpu.nextCycle_pc, Cpu.setCrossed_pc, latchOffset_pc, Cpu.nextCycle_offset,
    Cpu.setCrossed_offset, latchOffset_offset]
  exact ⟨_, by simp, rfl⟩

theorem branch_completes (hs : s.ready = true) : ∃ t, exec i s = .next t ∧ BranchEnds b s (cond s.cpu.p) t := by
  unfold BranchEnds
  cases hc : cond s.cpu.p with
  | false =>
    obtain ⟨t, ht, he⟩ := branch_exec_ends hp (branch_not_taken hp hops hc) hs
    exact ⟨t, ht, he.readsOnly (ReadsOnly.refl s), fun _ => he, nofun, nofun⟩
  | true =>
    by_cases hpage : hiByte (s.cpu.pc + b.signExtend 16) = hiByte s.cpu.pc
    · obtain ⟨t, ht, he⟩ := branch_exec_ends hp (branch_in_page hp hops hc hpage) (busRead_ready hs)
      exact ⟨t, ht, he.readsOnly (busRead_readsOnly _ s), nofun, fun _ _ => he, fun _ hne => absurd hpage hne⟩
    · obtain ⟨t, ht, he⟩ := branch_exec_ends hp (branch_across_page hp hops hc hpage) (busRead_ready (busRead_ready hs))
      exact ⟨t, ht, he.readsOnly ((busRead_readsOnly _ s).trans (busRead_readsOnly _ _)), nofun,
        fun _ heq => absurd heq hpage, fun _ _ => he⟩

end Branch

/-- Settles O18: the eight programs are one, `branch`, with the condition of each; its three ways to end are R450's. -/
theorem branchesTakeOrFallThrough : Obligations.BranchesTakeOrFallThrough := by
  intro b s hs
  have hall (i : Instr) (cond : Flags → Bool) (hp : programOf i = branch cond) (hops : i.operandBytes = [b]) :
      ∃ t, exec i s = .next t ∧ BranchEnds b s (cond s.cpu.p) t := branch_completes hp hops hs
  simp only [List.forall_mem_cons, List.not_mem_nil, false_imp_iff, implies_true, and_true]
  exact ⟨hall (.bpl b) (fun p => !p.n) rfl rfl, hall (.bmi b) (fun p => p.n) rfl rfl,
    hall (.bvc b) (fun p => !p.v) rfl rfl, hall (.bvs b) (fun p => p.v) rfl rfl,
    hall (.bcc b) (fun p => !p.c) rfl rfl, hall (.bcs b) (fun p => p.c) rfl rfl,
    hall (.bne b) (fun p => !p.z) rfl rfl, hall (.beq b) (fun p => p.z) rfl rfl⟩

/-! ## The place in a sequence (R107) -/

/-- Where the CPU is in its sequence: the phase, the number of the next cycle, the opcode byte. -/
def Cpu.place (c : Cpu) : Phase × Nat × Byte := (c.phase, c.cycle, c.opcode)

/-- `t` is at the same place as `s`, at the same master tick and with the same record of diagnostics. -/
structure SamePlace (s t : State) : Prop where
  place : t.cpu.place = s.cpu.place
  diagnostics : t.diagnostics = s.diagnostics
  masterTick : t.sched.masterTick = s.sched.masterTick

/-- A cycle whose own work leaves the place in the sequence to the sequence. -/
def Cycle.KeepsPlace (c : Cycle) : Prop := ∀ s, SamePlace s (c s).1

/-- A list of such cycles. -/
def CyclesKeepPlace (cs : List Cycle) : Prop := ∀ c ∈ cs, Cycle.KeepsPlace c

@[simp] theorem cyclesKeepPlace_nil : CyclesKeepPlace [] := fun _ hc => absurd hc List.not_mem_nil

@[simp] theorem cyclesKeepPlace_cons (c : Cycle) (cs : List Cycle) :
    CyclesKeepPlace (c :: cs) ↔ Cycle.KeepsPlace c ∧ CyclesKeepPlace cs := List.forall_mem_cons

@[simp] theorem cyclesKeepPlace_append (cs ds : List Cycle) :
    CyclesKeepPlace (cs ++ ds) ↔ CyclesKeepPlace cs ∧ CyclesKeepPlace ds := List.forall_mem_append

/-! Bus accesses leave the place alone, so a cycle keeps it when its register transfer does. -/

theorem readCycle_keepsPlace (a : Cpu → Word) {k : Byte → Cpu → Cpu} (h : ∀ b c, (k b c).place = c.place) :
    Cycle.KeepsPlace (readCycle a k) := by
  intro s
  obtain ⟨hcpu, -, -, hsched, hdiag⟩ := cpuRead_same (a s.cpu) s
  exact ⟨(h _ _).trans (congrArg Cpu.place hcpu), hdiag, congrArg Sched.masterTick hsched⟩

theorem writeCycle_keepsPlace (a : Cpu → Word) (v : Cpu → Byte) {k : Cpu → Cpu} (h : ∀ c, (k c).place = c.place) :
    Cycle.KeepsPlace (writeCycle a v k) := by
  intro s
  obtain ⟨hcpu, -, hdiag, htick, -⟩ := cpuWrite_same (a s.cpu) (v s.cpu) s
  exact ⟨(h _).trans (congrArg Cpu.place hcpu), hdiag, htick⟩

@[simp] theorem dummyReadPc_keepsPlace : Cycle.KeepsPlace dummyReadPc := readCycle_keepsPlace _ fun _ _ => rfl
@[simp] theorem pushCycle_keepsPlace (v : Cpu → Byte) : Cycle.KeepsPlace (pushCycle v) :=
  writeCycle_keepsPlace _ _ fun _ => rfl
theorem pullCycle_keepsPlace {k : Byte → Cpu → Cpu} (h : ∀ b c, (k b c).place = c.place) :
    Cycle.KeepsPlace (pullCycle k) := readCycle_keepsPlace _ h
@[simp] theorem pullDummy_keepsPlace : Cycle.KeepsPlace pullDummy := pullCycle_keepsPlace fun _ _ => rfl
@[simp] theorem resetStackCycle_keepsPlace : Cycle.KeepsPlace resetStackCycle := readCycle_keepsPlace _ fun _ _ => rfl
@[simp] theorem readEa_keepsPlace : Cycle.KeepsPlace readEa := readCycle_keepsPlace _ fun _ _ => rfl
@[simp] theorem writeEa_keepsPlace (r : Cpu → Byte) : Cycle.KeepsPlace (writeEa r) :=
  writeCycle_keepsPlace _ _ fun _ => rfl
@[simp] theorem zpIndex_keepsPlace (idx : Cpu → Byte) : Cycle.KeepsPlace (zpIndex idx) :=
  readCycle_keepsPlace _ fun _ _ => rfl
@[simp] theorem indexAlways_keepsPlace (idx : Cpu → Byte) : Cycle.KeepsPlace (indexAlways idx) :=
  readCycle_keepsPlace _ fun _ _ => rfl
@[simp] theorem indexRead_keepsPlace (idx : Cpu → Byte) : Cycle.KeepsPlace (indexRead idx) := fun s =>
  readCycle_keepsPlace (uncarried idx)
    (k := fun b c => ((c.setVal b).setEa (indexed idx c)).setCrossed (carries c.lo (idx c))) (fun _ _ => rfl) s
@[simp] theorem branchT3_keepsPlace : Cycle.KeepsPlace branchT3 := fun s =>
  readCycle_keepsPlace Cpu.pc
    (k := fun _ c => (if branchCrosses c then c else c.setPc (branchTarget c)).setCrossed (branchCrosses c))
    (fun _ c => by cases branchCrosses c <;> rfl) s
@[simp] theorem branchT4_keepsPlace : Cycle.KeepsPlace branchT4 := readCycle_keepsPlace _ fun _ _ => rfl

@[simp] theorem rmwEa_keepPlace (new : Byte → Cpu → Byte) : CyclesKeepPlace (rmwEa new) := by
  simp [rmwEa, dummyWriteEa]

@[simp] theorem izxPointer_keepPlace : CyclesKeepPlace izxPointer := by
  simp only [izxPointer, cyclesKeepPlace_cons]
  exact ⟨readCycle_keepsPlace _ fun _ _ => rfl, readCycle_keepsPlace _ fun _ _ => rfl,
    readCycle_keepsPlace _ fun _ _ => rfl, cyclesKeepPlace_nil⟩
@[simp] theorem izyPointer_keepPlace : CyclesKeepPlace izyPointer := by
  simp only [izyPointer, cyclesKeepPlace_cons]
  exact ⟨readCycle_keepsPlace _ fun _ _ => rfl, readCycle_keepsPlace _ fun _ _ => rfl,
    cyclesKeepPlace_nil⟩
theorem indirectCycles_keepPlace : CyclesKeepPlace indirectCycles := by
  simp only [indirectCycles, cyclesKeepPlace_cons]
  exact ⟨readCycle_keepsPlace _ fun _ _ => rfl, readCycle_keepsPlace _ fun _ _ => rfl,
    cyclesKeepPlace_nil⟩
@[simp] theorem vectorCycles_keepPlace (vec : Word) : CyclesKeepPlace (vectorCycles vec) := by
  simp only [vectorCycles, cyclesKeepPlace_cons]
  exact ⟨readCycle_keepsPlace _ fun _ _ => rfl, readCycle_keepsPlace _ fun _ _ => rfl,
    cyclesKeepPlace_nil⟩
@[simp] theorem returnFromException_keepPlace : CyclesKeepPlace returnFromException := by
  simp only [returnFromException, cyclesKeepPlace_cons, pullDummy_keepsPlace, true_and]
  exact ⟨pullCycle_keepsPlace fun _ _ => rfl, pullCycle_keepsPlace fun _ _ => rfl,
    pullCycle_keepsPlace fun _ _ => rfl, cyclesKeepPlace_nil⟩
theorem pullVal_keepPlace : CyclesKeepPlace pullVal := by
  simp only [pullVal, cyclesKeepPlace_cons, dummyReadPc_keepsPlace, pullDummy_keepsPlace, true_and]
  exact ⟨pullCycle_keepsPlace fun _ _ => rfl, cyclesKeepPlace_nil⟩
theorem jsrCycles_keepPlace : CyclesKeepPlace jsrCycles := by
  simp only [jsrCycles, dummyRead, cyclesKeepPlace_cons, pushCycle_keepsPlace, true_and]
  exact ⟨readCycle_keepsPlace _ fun _ _ => rfl, readCycle_keepsPlace _ fun _ _ => rfl, cyclesKeepPlace_nil⟩
theorem rtsCycles_keepPlace : CyclesKeepPlace rtsCycles := by
  simp only [rtsCycles, cyclesKeepPlace_cons, dummyReadPc_keepsPlace, pullDummy_keepsPlace, true_and]
  exact ⟨pullCycle_keepsPlace fun _ _ => rfl, pullCycle_keepsPlace fun _ _ => rfl,
    readCycle_keepsPlace _ fun _ _ => rfl, cyclesKeepPlace_nil⟩
theorem takeException_keepPlace (vec : Word) (status : Flags → Byte) : CyclesKeepPlace (takeException vec status) := by
  simp [takeException]
theorem dummyReads_keepPlace (n : Nat) : CyclesKeepPlace (List.replicate n dummyReadPc) := by
  intro c hc
  rw [List.eq_of_mem_replicate hc]
  exact dummyReadPc_keepsPlace

/-! The cycles of the modes in each class (R405). -/

section Bodies
variable (idx : Cpu → Byte) (r : Cpu → Byte) (new : Byte → Cpu → Byte)

theorem zpRead_keepPlace : CyclesKeepPlace [readEa] := by simp
theorem zpIndexedRead_keepPlace : CyclesKeepPlace [zpIndex idx, readEa] := by simp
theorem absIndexedRead_keepPlace : CyclesKeepPlace [indexRead idx, readEa] := by simp
theorem izxRead_keepPlace : CyclesKeepPlace (izxPointer ++ [readEa]) := by simp
theorem izyRead_keepPlace : CyclesKeepPlace (izyPointer ++ [indexRead idx, readEa]) := by simp
theorem zpWrite_keepPlace : CyclesKeepPlace [writeEa r] := by simp
theorem zpIndexedWrite_keepPlace : CyclesKeepPlace [zpIndex idx, writeEa r] := by simp
theorem absIndexedWrite_keepPlace : CyclesKeepPlace [indexAlways idx, writeEa r] := by simp
theorem izxWrite_keepPlace : CyclesKeepPlace (izxPointer ++ [writeEa r]) := by simp
theorem izyWrite_keepPlace : CyclesKeepPlace (izyPointer ++ [indexAlways idx, writeEa r]) := by simp
theorem zpIndexedRmw_keepPlace : CyclesKeepPlace (zpIndex idx :: rmwEa new) := by simp
theorem absIndexedRmw_keepPlace : CyclesKeepPlace (indexAlways idx :: rmwEa new) := by simp
theorem izxRmw_keepPlace : CyclesKeepPlace (izxPointer ++ rmwEa new) := by simp
theorem izyRmw_keepPlace : CyclesKeepPlace (izyPointer ++ (indexAlways idx :: rmwEa new)) := by simp

end Bodies

/-- The cycles of every instruction keep the place, since they are those of its class and mode. -/
theorem programOf_keepPlace (i : Instr) : CyclesKeepPlace (programOf i).body := by
  cases i
  case clc | nopImp1A | sec | nopImp3A | nopImp5A | nopImp7A | dey | txa | tya | txs | tay | tax | clv | tsx
      | iny | dex | cld | nopImpDA | inx | nop | sed | nopImpFA | cli | sei | aslAcc | rolAcc | lsrAcc | rorAcc =>
    exact dummyReads_keepPlace 1
  case jam02 | jam12 | jam22 | jam32 | jam42 | jam52 | jam62 | jam72 | aneImm | jam92 | shaIzy | tasAbsy
      | shyAbsx | shxAbsy | shaAbsy | lxaImm | jamB2 | jamD2 | jamF2 => exact dummyReads_keepPlace _
  case oraImm | anc0B | andImm | anc2B | eorImm | alrImm | arrImm | nopImm80 | nopImm82 | nopImm89 | ldyImm
      | ldxImm | ldaImm | cpyImm | nopImmC2 | cmpImm | sbxImm | cpxImm | nopImmE2 | adcImm | sbcImm | usbcImm
      | jmpAbs => exact cyclesKeepPlace_nil
  case nopZp04 | oraZp | bitZp | andZp | nopZp44 | eorZp | nopZp64 | ldyZp | ldaZp | ldxZp | laxZp | cpyZp
      | cmpZp | cpxZp | adcZp | sbcZp | nopAbs | oraAbs | bitAbs | andAbs | eorAbs | ldyAbs | ldaAbs | ldxAbs
      | laxAbs | cpyAbs | cmpAbs | cpxAbs | adcAbs | sbcAbs => exact zpRead_keepPlace
  case nopZpx14 | oraZpx | nopZpx34 | andZpx | nopZpx54 | eorZpx | nopZpx74 | ldyZpx | ldaZpx | nopZpxD4
      | cmpZpx | nopZpxF4 | adcZpx | sbcZpx | ldxZpy | laxZpy => exact zpIndexedRead_keepPlace _
  case nopAbsx1C | oraAbsx | nopAbsx3C | andAbsx | nopAbsx5C | eorAbsx | nopAbsx7C | ldyAbsx | ldaAbsx
      | nopAbsxDC | cmpAbsx | nopAbsxFC | adcAbsx | sbcAbsx | oraAbsy | andAbsy | eorAbsy | ldaAbsy | lasAbsy
      | ldxAbsy | laxAbsy | cmpAbsy | adcAbsy | sbcAbsy => exact absIndexedRead_keepPlace _
  case oraIzx | andIzx | eorIzx | ldaIzx | laxIzx | cmpIzx | adcIzx | sbcIzx => exact izxRead_keepPlace
  case oraIzy | andIzy | eorIzy | ldaIzy | laxIzy | cmpIzy | adcIzy | sbcIzy => exact izyRead_keepPlace _
  case styZp | staZp | stxZp | saxZp | styAbs | staAbs | stxAbs | saxAbs => exact zpWrite_keepPlace _
  case styZpx | staZpx | stxZpy | saxZpy => exact zpIndexedWrite_keepPlace _ _
  case staAbsx | staAbsy => exact absIndexedWrite_keepPlace _ _
  case staIzx | saxIzx => exact izxWrite_keepPlace _
  case staIzy => exact izyWrite_keepPlace _ _
  case aslZp | sloZp | rolZp | rlaZp | lsrZp | sreZp | rorZp | decZp | dcpZp | incZp | rraZp | iscZp | aslAbs
      | sloAbs | rolAbs | rlaAbs | lsrAbs | sreAbs | rorAbs | decAbs | dcpAbs | incAbs | rraAbs | iscAbs =>
    exact rmwEa_keepPlace _
  case aslZpx | sloZpx | rolZpx | rlaZpx | lsrZpx | sreZpx | rorZpx | decZpx | dcpZpx | incZpx | rraZpx | iscZpx =>
    exact zpIndexedRmw_keepPlace _ _
  case aslAbsx | sloAbsx | rolAbsx | rlaAbsx | lsrAbsx | sreAbsx | rorAbsx | decAbsx | dcpAbsx | incAbsx | rraAbsx
      | iscAbsx | sloAbsy | rlaAbsy | sreAbsy | dcpAbsy | rraAbsy | iscAbsy => exact absIndexedRmw_keepPlace _ _
  case sloIzx | rlaIzx | sreIzx | dcpIzx | rraIzx | iscIzx => exact izxRmw_keepPlace _
  case sloIzy | rlaIzy | sreIzy | dcpIzy | rraIzy | iscIzy => exact izyRmw_keepPlace _ _
  case bmi | bvs | bcs | beq | bpl | bvc | bcc | bne =>
    exact (by simp : CyclesKeepPlace [branchT3, branchT4])
  case jmpInd => exact indirectCycles_keepPlace
  case jsrAbs => exact jsrCycles_keepPlace
  case rts => exact rtsCycles_keepPlace
  case brk => exact takeException_keepPlace vectorIrq Flags.pushedBySoftware
  case rti => exact (by simp : CyclesKeepPlace (dummyReadPc :: returnFromException))
  case pha | php => exact (by simp : CyclesKeepPlace [dummyReadPc, pushCycle _])
  case pla | plp => exact pullVal_keepPlace

/-! ## Every instruction completes (R403, R820, R1001, R1020) -/

/-- Cycles leave the record of diagnostics to the operation at the end (R820). -/
theorem runCycles_diagnostics {cs : List Cycle} (h : CyclesKeepPlace cs) (s : State) :
    (runCycles cs s).diagnostics = s.diagnostics := by
  induction cs generalizing s with
  | nil => rfl
  | cons c cs ih =>
    obtain ⟨hc, hcs⟩ := (cyclesKeepPlace_cons c cs).mp h
    have hone : (runCycle c s.awaitCpu).1.diagnostics = s.diagnostics :=
      (hc s.awaitCpu).diagnostics.trans (awaitCpu_diagnostics s)
    simp only [runCycles]
    split
    · exact hone
    · exact (ih hcs _).trans hone

/-- The operation at the end of an instruction adds a record for a fallback opcode only (R820). -/
theorem programOf_finish_diagnostics (i : Instr) (s : State) : ((programOf i).finish s).diagnostics.length =
    s.diagnostics.length + if i.status = .fallback then 1 else 0 := by
  cases i <;> rfl

theorem afterCycles_diagnostics (i : Instr) (s : State) : (afterCycles i s).diagnostics.length =
    s.diagnostics.length + if i.status = .fallback then 1 else 0 := by
  unfold afterCycles Program.rest
  rw [programOf_finish_diagnostics]
  split
  · rfl
  · rw [runCycles_diagnostics (programOf_keepPlace i)]
    rfl

theorem afterCycles_kept (i : Instr) (s : State) : StateKept s (afterCycles i s) :=
  (((SafeKept.refl s).mapCpu _).trans (rest_safeKept (programOf_keepsSafe i) _)).kept

/-- The instructions after which no line is polled (R403). -/
theorem programOf_inhibit_iff (i : Instr) : (programOf i).inhibit = true ↔ i = .cli ∨ i = .sei ∨ i = .plp := by
  constructor
  · intro h
    cases i
    case cli => exact .inl rfl
    case sei => exact .inr (.inl rfl)
    case plp => exact .inr (.inr rfl)
    all_goals exact absurd h Bool.false_ne_true
  · rintro (rfl | rfl | rfl) <;> rfl

theorem pollPhase_cases (s : State) (inhibit i : Bool) : s.pollPhase inhibit i = .fetch ∨
    s.pollPhase inhibit i = .interrupt .nmi ∨ s.pollPhase inhibit i = .interrupt .irq := by
  unfold State.pollPhase
  split
  · exact .inl rfl
  · split
    · exact .inr (.inl rfl)
    · split
      · exact .inr (.inr rfl)
      · exact .inl rfl

/-- Settles O8: the cycles of an instruction keep a machine ready, and R403 ends them, whatever they were. -/
theorem everyInstructionCompletes : Obligations.EveryInstructionCompletes := by
  intro i s hs
  have hkept := afterCycles_kept i s
  obtain ⟨t, ht, he⟩ := exec_ends (i := i) (s := s) (M := afterCycles i s) rfl (hkept.ready hs)
  have hall := hkept.trans he.kept
  have hdiag := he.diagnostics
  obtain ⟨-, hinhibit, hphase, hcycle, -⟩ := he
  refine ⟨t, ht, hall.ready hs, hcycle, ?_, ?_, ?_, hall.sameWiring⟩
  · rw [hphase]
    exact pollPhase_cases _ _ _
  · rw [hinhibit]
    exact programOf_inhibit_iff i
  · rw [hdiag, afterCycles_diagnostics]

end Sys2Proof.Machine
end

section
/-! PROOFS. Fetching an instruction (R401, R402): what the operand latches keep, the program an opcode byte selects, and
that a step runs the instruction whose bytes stand at PC (R103). -/

namespace Sys2Proof.Machine

/-! ## Operand latches (R401) -/

/-- The latches of a first operand byte. -/
inductive FirstLatch : (Byte → Cpu → Cpu) → Prop
  | lo : FirstLatch latchLo
  | imm : FirstLatch latchImm
  | zp : FirstLatch latchZp
  | ptr : FirstLatch latchPtr
  | offset : FirstLatch latchOffset

/-- The latches of a second operand byte. -/
inductive SecondLatch : (Byte → Cpu → Cpu) → Prop
  | hi : SecondLatch latchHi
  | high : SecondLatch latchHigh

section Latches
variable {l : Byte → Cpu → Cpu}

theorem FirstLatch.lo_eq (h : FirstLatch l) (b : Byte) (c : Cpu) : (l b c).lo = b := by cases h <;> rfl
theorem FirstLatch.regs_eq (h : FirstLatch l) (b : Byte) (c : Cpu) : (l b c).regs = c.regs := by cases h <;> rfl
theorem FirstLatch.place_eq (h : FirstLatch l) (b : Byte) (c : Cpu) : (l b c).place = c.place := by cases h <;> rfl

/-- What a byte leaves in the temporaries it leaves again. -/
theorem FirstLatch.again (h : FirstLatch l) (b : Byte) (c : Cpu) : l b (l b c).nextCycle = (l b c).nextCycle := by
  cases h <;> rfl

theorem SecondLatch.hi_eq (h : SecondLatch l) (b : Byte) (c : Cpu) : (l b c).hi = b := by cases h <;> rfl
theorem SecondLatch.lo_eq (h : SecondLatch l) (b : Byte) (c : Cpu) : (l b c).lo = c.lo := by cases h <;> rfl
theorem SecondLatch.regs_eq (h : SecondLatch l) (b : Byte) (c : Cpu) : (l b c).regs = c.regs := by cases h <;> rfl
theorem SecondLatch.place_eq (h : SecondLatch l) (b : Byte) (c : Cpu) : (l b c).place = c.place := by cases h <;> rfl
theorem SecondLatch.again (h : SecondLatch l) (b : Byte) (c : Cpu) :
    l b (latchLo c.lo (l b c).nextCycle) = (l b c).nextCycle := by cases h <;> rfl

end Latches

/-- How a program begins: with a cycle it always makes, or with one or two operand bytes (R300, R401). -/
inductive Program.Begins : Program → Prop
  | cycle {c : Cycle} {cs : List Cycle} {finish : State → State} {inhibit decimal : Bool} :
      Begins { operands := [], body := c :: cs, skip := fun _ => false, finish, inhibit, decimal }
  | one {l : Byte → Cpu → Cpu} {body : List Cycle} {skip : Cpu → Bool} {finish : State → State}
      {inhibit decimal : Bool} (h : FirstLatch l) : Begins { operands := [l], body, skip, finish, inhibit, decimal }
  | two {l : Byte → Cpu → Cpu} {body : List Cycle} {skip : Cpu → Bool} {finish : State → State}
      {inhibit decimal : Bool} (h : SecondLatch l) :
      Begins { operands := [latchLo, l], body, skip, finish, inhibit, decimal }

theorem programOf_begins (i : Instr) : (programOf i).Begins := by
  cases i <;> repeat' constructor

/-! ## The program of an opcode byte (R402) -/

theorem programAt_opcode (i : Instr) : programAt i.opcode = programOf i := by
  cases i <;> dsimp only [Instr.opcode] <;> rfl

/-- The operand bytes fetched before an instruction's own cycles (R401, R712). -/
theorem programOf_operands_length (i : Instr) : (programOf i).operands.length + 1 = fetchedBytes i := by
  cases i <;> rfl

/-- Selected by its opcode byte, an instruction has that opcode byte and, of the two bytes after it, those its length
says (R300, R301). -/
theorem instrAt_bytes (op b1 b2 : Byte) : (instrAt op b1 b2).opcode = op ∧
    (instrAt op b1 b2).operandBytes = [b1, b2].take (lengthOf op - 1) := by
  obtain ⟨i, hrow⟩ := exists_rowOf op
  unfold instrAt
  generalize rowAt op = r at hrow
  cases hrow with
  | f1 hl he =>
    rw [hl]
    exact List.cons.inj he
  | f2 hl he =>
    rw [hl]
    exact List.cons.inj (he b1)
  | f3 hl he =>
    rw [hl]
    obtain ⟨hop, hbytes⟩ := List.cons.inj (he (joinBytes b2 b1))
    rw [loByte_join, hiByte_join] at hbytes
    exact ⟨hop, hbytes⟩

theorem fetchedBytes_le (i : Instr) : fetchedBytes i ≤ (encode i).length := by
  unfold fetchedBytes
  split
  · exact (by decide : 2 ≤ 3)
  · exact Nat.le_refl _

theorem fetchedInstr_opcode (f : State) : (fetchedInstr f).opcode = f.cpu.opcode := (instrAt_bytes _ _ _).1

theorem programOf_fetchedInstr (f : State) : programOf (fetchedInstr f) = programAt f.cpu.opcode := by
  rw [← programAt_opcode, fetchedInstr_opcode]

/-- Of the fetched instruction the program latches no byte but those that stand in the temporaries: where the second
one does not stand there yet, the instruction is JSR, which latches one (R712). -/
theorem fetchedInstr_operandBytes (f : State) :
    (fetchedInstr f).operandBytes.take (programAt f.cpu.opcode).operands.length =
      [f.cpu.lo, f.cpu.hi].take (programAt f.cpu.opcode).operands.length := by
  have hbytes : (fetchedInstr f).operandBytes = [f.cpu.lo, operandHigh f].take (lengthOf f.cpu.opcode - 1) :=
    (instrAt_bytes _ _ _).2
  rw [hbytes, List.take_take]
  by_cases hjsr : f.cpu.opcode = 0x20
  · have hprogram : programAt 0x20 = progJsrAbs := programAt_opcode (.jsrAbs 0)
    rw [hjsr, hprogram]
    rfl
  · have hhi : operandHigh f = f.cpu.hi := if_neg hjsr
    have hfetched := programOf_operands_length (fetchedInstr f)
    have hle : fetchedBytes (fetchedInstr f) ≤ (fetchedInstr f).operandBytes.length + 1 := fetchedBytes_le _
    rw [hbytes, List.length_take] at hle
    rw [programOf_fetchedInstr] at hfetched
    rw [hhi, Nat.min_eq_left (by omega)]

/-! ## Bytes in memory (R206, R210) -/

/-- Memory devices answer at `pc` and the following addresses with these bytes. -/
def MemoryHolds (s : State) (pc : Word) (bytes : List Byte) : Prop :=
  ∀ k, (h : k < bytes.length) → s.memoryByte (pc + BitVec.ofNat 16 k) = some bytes[k]

theorem MemoryHolds.head {s : State} {pc : Word} {b : Byte} {bytes : List Byte} (h : MemoryHolds s pc (b :: bytes)) :
    s.memoryByte pc = some b := by
  have hzero := h 0 (Nat.succ_pos _)
  rwa [show pc + BitVec.ofNat 16 0 = pc from BitVec.add_zero pc] at hzero

theorem MemoryHolds.tail {s : State} {pc : Word} {b : Byte} {bytes : List Byte} (h : MemoryHolds s pc (b :: bytes)) :
    MemoryHolds s (pc + 1) bytes := by
  intro k hk
  have haddr : pc + 1 + BitVec.ofNat 16 k = pc + BitVec.ofNat 16 (k + 1) := by
    rw [Nat.add_comm k 1, BitVec.ofNat_add, BitVec.add_assoc]
    rfl
  rw [haddr]
  exact h (k + 1) (Nat.succ_lt_succ hk)

theorem ReadsOnly.memoryHolds {s t : State} (h : ReadsOnly s t) {pc : Word} {bytes : List Byte}
    (hmem : MemoryHolds s pc bytes) : MemoryHolds t pc bytes := by
  obtain ⟨-, hsame, -⟩ := h
  exact fun k hk => (hsame _).trans (hmem k hk)

theorem cpuRead_memoryByte {addr : Word} {s : State} {b : Byte} (h : s.memoryByte addr = some b) :
    (cpuRead addr s).1 = b := by
  unfold State.memoryByte at h
  unfold cpuRead
  split at h
  · rename_i id d off hr
    split at h
    · rename_i hk
      cases h
      rw [hr, readTarget_other (by rw [hk]; decide)]
      simp only [AddressSpace.readTarget, hk]
    · rename_i hk
      cases h
      rw [hr, readTarget_other (by rw [hk]; decide)]
      simp only [AddressSpace.readTarget, hk]
    · cases h
  · cases h

theorem busRead_memoryByte {addr : Word} {s : State} {b : Byte} (h : s.memoryByte addr = some b) :
    (busRead addr s).1 = b := by
  have hreads : s.awaitCpu.cpuBus.reads = s.cpuBus.reads := by rw [awaitCpu_cpuBus]
  unfold busRead
  exact cpuRead_memoryByte ((memoryByte_congr (awaitCpu_devices s) hreads addr).trans h)

/-! ## The operand fetches (R401) -/

/-- The machine `t` after the operand fetches of the latches `ls` from `s`. -/
structure Fetched (ls : List (Byte → Cpu → Cpu)) (s t : State) : Prop where
  readsOnly : ReadsOnly s t
  regs : t.cpu.regs = { s.cpu.regs with pc := s.cpu.pc + BitVec.ofNat 16 ls.length }
  opcode : t.cpu.opcode = s.cpu.opcode
  /-- The temporaries hold the bytes that memory devices answer with (R206). -/
  bytes : ∀ bytes : List Byte, ls.length ≤ bytes.length → MemoryHolds s s.cpu.pc bytes →
    [t.cpu.lo, t.cpu.hi].take ls.length = bytes.take ls.length
  /-- Latching those bytes a second time changes nothing. -/
  again : ∀ bytes : List Byte, bytes.take ls.length = [t.cpu.lo, t.cpu.hi].take ls.length →
    latchAll ls bytes t.cpu = t.cpu

theorem ReadsOnly.setCpu {s t : State} (h : ReadsOnly s t) (c : Cpu) : ReadsOnly s (t.setCpu c) := h

/-- The machine after the fetch of one operand byte by a latch (R401). -/
def operandFetched (l : Byte → Cpu → Cpu) (s : State) : State :=
  (busRead s.cpu.pc s).2.setCpu (l (busRead s.cpu.pc s).1 s.cpu.incPc).nextCycle

theorem runCycles_operand (l : Byte → Cpu → Cpu) (cs : List Cycle) (s : State) :
    runCycles (operandCycle l :: cs) s = runCycles cs (operandFetched l s) := runCycles_read _ _ cs s s.cpu

theorem operandFetched_readsOnly (l : Byte → Cpu → Cpu) (s : State) : ReadsOnly s (operandFetched l s) :=
  (busRead_readsOnly s.cpu.pc s).setCpu _

theorem Cpu.incPc_regs (c : Cpu) : c.incPc.regs = { c.regs with pc := c.pc + 1 } := rfl

theorem operandFetched_regs {l : Byte → Cpu → Cpu} (h : ∀ b c, (l b c).regs = c.regs) (s : State) :
    (operandFetched l s).cpu.regs = { s.cpu.regs with pc := s.cpu.pc + 1 } := by
  rw [operandFetched, State.setCpu_cpu, Cpu.nextCycle_regs, h, Cpu.incPc_regs]

theorem operandFetched_opcode {l : Byte → Cpu → Cpu} (h : ∀ b c, (l b c).place = c.place) (s : State) :
    (operandFetched l s).cpu.opcode = s.cpu.opcode := by
  rw [operandFetched, State.setCpu_cpu, Cpu.nextCycle_opcode]
  exact congrArg (fun p => p.2.2) (h (busRead s.cpu.pc s).1 s.cpu.incPc)

theorem fetched_none (s : State) : Fetched [] s s where
  readsOnly := ReadsOnly.refl s
  regs := by simp [Cpu.regs]
  opcode := rfl
  bytes _ _ _ := rfl
  again _ _ := rfl

theorem fetched_one {l : Byte → Cpu → Cpu} (h : FirstLatch l) (s : State) : Fetched [l] s (operandFetched l s) where
  readsOnly := operandFetched_readsOnly l s
  regs := operandFetched_regs h.regs_eq s
  opcode := operandFetched_opcode h.place_eq s
  bytes
    | b :: bytes, _, hmem => by
      have hread : (busRead s.cpu.pc s).1 = b := busRead_memoryByte hmem.head
      have hlo : (operandFetched l s).cpu.lo = b := (h.lo_eq _ _).trans hread
      simp [hlo]
  again
    | [], hbytes => by simp at hbytes
    | b :: bytes, hbytes => by
      have hb : b = (busRead s.cpu.pc s).1 := (List.cons.inj hbytes).1.trans (h.lo_eq _ _)
      rw [hb]
      exact h.again _ s.cpu.incPc

theorem fetched_two {l : Byte → Cpu → Cpu} (h : SecondLatch l) (s : State) :
    Fetched [latchLo, l] s (operandFetched l (operandFetched latchLo s)) where
  readsOnly := (operandFetched_readsOnly _ s).trans (operandFetched_readsOnly _ _)
  regs := by
    have hone := operandFetched_regs FirstLatch.lo.regs_eq s
    have hpc : (operandFetched latchLo s).cpu.pc = s.cpu.pc + 1 := congrArg Regs.pc hone
    rw [operandFetched_regs h.regs_eq, hone, hpc, BitVec.add_assoc]
    rfl
  opcode := (operandFetched_opcode h.place_eq _).trans (operandFetched_opcode FirstLatch.lo.place_eq s)
  bytes
    | [_], hlen, _ => by simp at hlen
    | b1 :: b2 :: bytes, _, hmem => by
      have hread1 : (busRead s.cpu.pc s).1 = b1 := busRead_memoryByte hmem.head
      have hread2 : (busRead (operandFetched latchLo s).cpu.pc (operandFetched latchLo s)).1 = b2 := by
        have hpc : (operandFetched latchLo s).cpu.pc = s.cpu.pc + 1 :=
          congrArg Regs.pc (operandFetched_regs FirstLatch.lo.regs_eq s)
        rw [hpc]
        exact busRead_memoryByte ((operandFetched_readsOnly latchLo s).memoryHolds hmem.tail).head
      have hlo : (operandFetched l (operandFetched latchLo s)).cpu.lo = b1 := (h.lo_eq _ _).trans hread1
      have hhi : (operandFetched l (operandFetched latchLo s)).cpu.hi = b2 := (h.hi_eq _ _).trans hread2
      simp [hlo, hhi]
  again
    | [], hbytes => by simp at hbytes
    | [_], hbytes => by simp at hbytes
    | b1 :: b2 :: bytes, hbytes => by
      obtain ⟨hb1, hrest⟩ := List.cons.inj hbytes
      have hb2 := (List.cons.inj hrest).1
      rw [hb1.trans (h.lo_eq _ _), hb2.trans (h.hi_eq _ _)]
      exact h.again _ (operandFetched latchLo s).cpu.incPc

/-- The operand fetches of a program. -/
theorem fetches_fetched {p : Program} (h : p.Begins) (s : State) : Fetched p.operands s (runCycles p.fetches s) := by
  cases h with
  | cycle => exact fetched_none s
  | one h =>
    show Fetched _ s (runCycles [operandCycle _] s)
    rw [runCycles_operand]
    exact fetched_one h s
  | two h =>
    show Fetched _ s (runCycles [operandCycle _, operandCycle _] s)
    rw [runCycles_operand, runCycles_operand]
    exact fetched_two h s

/-! ## The fetch of an instruction and its step (R401, R402, R103) -/

/-- The machine after T1, the fetch of the opcode byte. -/
def opcodeFetched (s : State) : State := (runCycle fetchOpcode s.awaitCpu).1

theorem opcodeFetched_eq (s : State) : opcodeFetched s = (busRead s.cpu.pc s).2.setCpu
    ((s.cpu.incPc.setOpcode (busRead s.cpu.pc s).1).setPhase .execute).nextCycle := by
  have hone : runCycles [fetchOpcode] s = opcodeFetched s := by
    rw [runCycles, runCycles_nil, ite_self]
    rfl
  rw [← hone]
  exact runCycles_read _ _ [] s s.cpu

theorem programAt_begins (op : Byte) : (programAt op).Begins := programOf_begins _

theorem fetchInstruction_fetched (s : State) : Fetched (programAt (opcodeFetched s).cpu.opcode).operands
    (opcodeFetched s) (fetchInstruction s) := fetches_fetched (programAt_begins _) _

theorem fetchInstruction_opcode (s : State) : (fetchInstruction s).cpu.opcode = (opcodeFetched s).cpu.opcode :=
  (fetchInstruction_fetched s).opcode

/-- After its fetch an instruction is what is left of its program: its operand bytes are latched. -/
theorem exec_fetchInstruction {i : Instr} {s : State} (hop : i.opcode = (fetchInstruction s).cpu.opcode)
    (hbytes : i.operandBytes.take (programOf i).operands.length =
      [(fetchInstruction s).cpu.lo, (fetchInstruction s).cpu.hi].take (programOf i).operands.length) :
    exec i (fetchInstruction s) =
      outcome (endInstruction (programOf i).inhibit ((programOf i).rest (fetchInstruction s))) := by
  have hlatched : latchAll (programOf i).operands i.operandBytes (fetchInstruction s).cpu = (fetchInstruction s).cpu := by
    have h := fetchInstruction_fetched s
    rw [← fetchInstruction_opcode, ← hop, programAt_opcode] at h
    exact h.again _ hbytes
  rw [exec_eq_run, run_eq, mapCpu_eq, hlatched, setCpu_self]

/-- A step in phase `fetch` runs what is left of the program that the opcode byte selects. -/
theorem step_fetch {s : State} (hs : s.faulted = false) (hphase : s.cpu.phase = .fetch) :
    step s = outcome (endInstruction (programAt (opcodeFetched s).cpu.opcode).inhibit
      ((programAt (opcodeFetched s).cpu.opcode).rest (fetchInstruction s))) := by
  have hprogram := programOf_fetchedInstr (fetchInstruction s)
  have hbytes := fetchedInstr_operandBytes (fetchInstruction s)
  rw [← hprogram] at hbytes
  unfold step
  rw [hs, if_neg Bool.false_ne_true, hphase]
  dsimp only
  rw [exec_fetchInstruction (fetchedInstr_opcode _) hbytes, hprogram, fetchInstruction_opcode]

/-- The fetch of the instruction whose bytes stand at PC. -/
theorem fetchInstruction_of_memory {i : Instr} {s : State} (h : MemoryHolds s s.cpu.pc (encode i)) :
    (fetchInstruction s).cpu.opcode = i.opcode ∧
      (fetchInstruction s).cpu.regs = { s.cpu.regs with pc := s.cpu.pc + BitVec.ofNat 16 (fetchedBytes i) } ∧
      ReadsOnly s (fetchInstruction s) ∧
      i.operandBytes.take (programOf i).operands.length =
        [(fetchInstruction s).cpu.lo, (fetchInstruction s).cpu.hi].take (programOf i).operands.length := by
  have hread : (busRead s.cpu.pc s).1 = i.opcode := busRead_memoryByte h.head
  have hopcode : (opcodeFetched s).cpu.opcode = i.opcode := by rw [opcodeFetched_eq, hread]; rfl
  have hregs : (opcodeFetched s).cpu.regs = { s.cpu.regs with pc := s.cpu.pc + 1 } := by rw [opcodeFetched_eq]; rfl
  have hpc : (opcodeFetched s).cpu.pc = s.cpu.pc + 1 := congrArg Regs.pc hregs
  have hro : ReadsOnly s (opcodeFetched s) := by rw [opcodeFetched_eq]; exact (busRead_readsOnly _ s).setCpu _
  have hf := fetchInstruction_fetched s
  rw [hopcode, programAt_opcode] at hf
  have hlen := programOf_operands_length i
  have hle : fetchedBytes i ≤ i.operandBytes.length + 1 := fetchedBytes_le i
  refine ⟨hf.opcode.trans hopcode, ?_, hro.trans hf.readsOnly, ?_⟩
  · rw [hf.regs, hregs, hpc, ← hlen, Nat.add_comm _ 1, BitVec.ofNat_add, ← BitVec.add_assoc]
    rfl
  · refine (hf.bytes _ (by omega) ?_).symm
    rw [hpc]
    exact hro.memoryHolds h.tail

/-- Settles O9: the bytes that decode are those the encoder writes, and the fetch latches them where they stand. -/
theorem stepRunsTheDecodedInstruction : Obligations.StepRunsTheDecodedInstruction := by
  intro s bytes i hs hphase hdecode hmem
  have hencode : encode i = bytes := by simpa using encodeOfDecodedIsTheBytes bytes i [] hdecode
  rw [← hencode] at hmem
  obtain ⟨hopcode, hregs, hro, hbytes⟩ := fetchInstruction_of_memory hmem
  refine ⟨?_, hregs, hopcode, hro⟩
  rw [step_fetch hs hphase, ← fetchInstruction_opcode, hopcode, programAt_opcode,
    exec_fetchInstruction hopcode.symm hbytes]

end Sys2Proof.Machine
end

section
/-! PROOFS. A step is the master ticks it spans (R400, R1110, R1121): the ticks up to each CPU cycle, then the cycles of
a sequence and of an instruction one after the other. -/

namespace Sys2Proof.Machine

/-! ## Spans of master ticks (R1110) -/

/-- One or more master ticks lead from `s` to `t`, as many as `master_tick` has advanced. -/
def Spans (s t : State) : Prop :=
  ∃ n, 0 < n ∧ ticks n s = t ∧ t.sched.masterTick = s.sched.masterTick + n

theorem ticks_add (m n : Nat) (s : State) : ticks (m + n) s = ticks n (ticks m s) := by
  induction m generalizing s with
  | zero => rw [Nat.zero_add, ticks]
  | succ m ih => rw [Nat.succ_add, ticks, ticks, ih]

theorem Spans.trans {s t u : State} (h : Spans s t) (k : Spans t u) : Spans s u := by
  obtain ⟨m, hm, rfl, htick⟩ := h
  obtain ⟨n, -, rfl, htick'⟩ := k
  exact ⟨m + n, Nat.add_pos_left hm n, ticks_add m n s, by omega⟩

/-- A machine whose clock runs: it is ready and its receivers are in their ranges (R1101). -/
structure State.Live (s : State) : Prop where
  ready : s.ready = true
  sched : s.sched.wf = true

theorem SafeKept.live {s t : State} (h : SafeKept s t) (hs : s.Live) : t.Live :=
  ⟨h.kept.ready hs.ready, h.sched hs.sched⟩

/-! ## The ticks up to a CPU cycle (R1101, R1120) -/

theorem ticksToWork_pos (r : Receiver) : 0 < r.ticksToWork := by
  unfold Receiver.ticksToWork
  omega

/-- One master tick at a receiver: it does its work, or is one tick nearer to it. -/
theorem deliver_nears {r : Receiver} (h : r.wf = true) :
    r.deliver.2.2 = true ∨ r.deliver.2.2 = false ∧ r.deliver.1.ticksToWork + 1 = r.ticksToWork := by
  obtain ⟨hlo, hhi⟩ := (receiver_wf_iff r).mp h
  obtain ⟨divisor, countdown, skip⟩ := r
  dsimp only at hlo hhi
  unfold Receiver.deliver Receiver.tick Receiver.activate Receiver.ticksToWork
  by_cases hc : countdown ≤ 1
  · cases skip with
    | zero => exact .inl (by simp [hc])
    | succ k =>
      refine .inr ⟨by simp [hc], ?_⟩
      simp [hc, Nat.succ_mul]
      omega
  · refine .inr ⟨by simp [hc], ?_⟩
    simp [hc]
    omega

theorem tick_of_work {s : State} (hs : s.faulted = false) (h : s.tickBeforeCpu.2 = true) :
    tick s = cpuCycle s.tickBeforeCpu.1 := by
  rw [tick, hs, if_neg Bool.false_ne_true, if_pos h]

theorem tick_of_wait {s : State} (hs : s.faulted = false) (h : s.tickBeforeCpu.2 = false) :
    tick s = s.tickBeforeCpu.1 := by
  rw [tick, hs, if_neg Bool.false_ne_true, h, if_neg Bool.false_ne_true]

/-- The ticks that bring the CPU to its next cycle, with the cycle in the last of them. -/
theorem ticks_awaitTicks (n : Nat) {s : State} (hs : s.Live) (hn : s.sched.cpu.ticksToWork = n) :
    ∃ m, 0 < m ∧ ticks m s = cpuCycle (awaitTicks n s) ∧
      (awaitTicks n s).sched.masterTick = s.sched.masterTick + m := by
  induction n generalizing s with
  | zero => exact absurd hn (Nat.ne_of_gt (ticksToWork_pos _))
  | succ n ih =>
    obtain ⟨-, -, -, -, -, hsched, hwork, -⟩ := tickBeforeCpu_same s
    obtain ⟨hcpu, -⟩ := (sched_wf_iff s.sched).mp hs.sched
    have hrun := ready_not_faulted hs.ready
    have hone : s.tickBeforeCpu.1.sched.masterTick = s.sched.masterTick + 1 := by rw [hsched]; rfl
    rw [awaitTicks]
    obtain hdone | ⟨hwait, hnear⟩ := deliver_nears hcpu
    · have hnow : s.tickBeforeCpu.2 = true := hwork.trans hdone
      rw [if_pos hnow]
      exact ⟨1, Nat.one_pos, tick_of_work hrun hnow, hone⟩
    · have hlater : s.tickBeforeCpu.2 = false := hwork.trans hwait
      have hleft : s.tickBeforeCpu.1.sched.cpu.ticksToWork = n := by
        rw [hsched]
        exact Nat.succ_injective (hnear.trans hn)
      obtain ⟨m, -, hticks, htick⟩ := ih ((tickBeforeCpu_safeKept s).live hs) hleft
      rw [hlater, if_neg Bool.false_ne_true]
      refine ⟨m + 1, Nat.succ_pos m, ?_, by omega⟩
      rw [ticks, tick_of_wait hrun hlater, hticks]

/-- The master ticks up to and with the CPU's next cycle, which itself takes no time. -/
theorem spans_cpuCycle {s t : State} (hs : s.Live) (ht : cpuCycle s.awaitCpu = t)
    (htick : t.sched.masterTick = s.awaitCpu.sched.masterTick) : Spans s t := by
  obtain ⟨m, hm, hticks, hadvance⟩ := ticks_awaitTicks _ hs rfl
  exact ⟨m, hm, hticks.trans ht, htick.trans hadvance⟩

/-! ## One cycle of a sequence (R107, R400) -/

section Cycle
variable {c : Cycle} (hsafe : Cycle.KeepsSafe c) (hplace : Cycle.KeepsPlace c)

include hsafe in
theorem cycle_live {s : State} (hs : s.Live) : (runCycle c s.awaitCpu).1.Live :=
  ((awaitCpu_safeKept s).trans (runCycle_safeKept hsafe _)).live hs

include hplace

/-- A cycle moves the CPU to the next place of its sequence. -/
theorem cycle_place (s : State) : (runCycle c s.awaitCpu).1.cpu.phase = s.cpu.phase ∧
    (runCycle c s.awaitCpu).1.cpu.cycle = s.cpu.cycle + 1 ∧ (runCycle c s.awaitCpu).1.cpu.opcode = s.cpu.opcode := by
  have h := (hplace s.awaitCpu).place
  rw [awaitCpu_cpu] at h
  simp only [Cpu.place, Prod.mk.injEq] at h
  obtain ⟨hphase, hcycle, hopcode⟩ := h
  exact ⟨hphase, congrArg (· + 1) hcycle, hopcode⟩

theorem cycle_masterTick (s : State) :
    (runCycle c s.awaitCpu).1.sched.masterTick = s.awaitCpu.sched.masterTick := (hplace s.awaitCpu).masterTick

end Cycle

/-- The head of what is left of a list after `n` of its elements, and what is left after it. -/
theorem drop_eq_cons {α : Type} {l as : List α} {a : α} {n : Nat} (h : l.drop n = a :: as) :
    l[n]? = some a ∧ l.length = n + (as.length + 1) ∧ l.drop (n + 1) = as := by
  have hlen := congrArg List.length h
  rw [List.length_drop, List.length_cons] at hlen
  refine ⟨?_, by omega, ?_⟩
  · have hhead := congrArg (·[0]?) h
    simpa using hhead
  · rw [← List.drop_drop, h, List.drop_one, List.tail_cons]

/-! ## Interrupt and reset sequences (R1030, R1040) -/

/-- A list of cycles none of which ends its sequence early. -/
def CyclesGoOn (cs : List Cycle) : Prop := ∀ c ∈ cs, ∀ s, (c s).2 = false

/-- After a cycle that does not end its sequence, the others follow. -/
theorem runCycles_cons_goOn {c : Cycle} (h : ∀ s, (c s).2 = false) (cs : List Cycle) (s : State) :
    runCycles (c :: cs) s = runCycles cs (runCycle c s.awaitCpu).1 := by
  rw [runCycles, show (runCycle c s.awaitCpu).2 = false from h _, if_neg Bool.false_ne_true]

section Sequence
variable {ph : Phase} {cycles : List Cycle} {finish : State → State}
  (hcpu : ∀ s : State, s.cpu.phase = ph → cpuCycle s = sequenceCycle cycles finish s)
  (hsafe : CyclesKeepSafe cycles) (hplace : CyclesKeepPlace cycles) (hgo : CyclesGoOn cycles)
  (hfinish : ∀ s, (finish s).sched = s.sched)

include hcpu hplace hfinish in
/-- The ticks up to one cycle of a sequence, and the end of the sequence when it is the last. -/
theorem sequenceCycle_spans {c : Cycle} {s : State} {n : Nat} (hs : s.Live) (hph : s.cpu.phase = ph)
    (hn : s.cpu.cycle = n + 1) (hget : cycles[n]? = some c) :
    Spans s (if cycles.length ≤ n + 1 then finish (runCycle c s.awaitCpu).1 else (runCycle c s.awaitCpu).1) := by
  have hc := hplace c (List.mem_of_getElem? hget)
  refine spans_cpuCycle hs ?_ ?_
  · rw [hcpu _ (by rw [awaitCpu_cpu]; exact hph), sequenceCycle, awaitCpu_cpu, hn, Nat.add_sub_cancel, hget]
  · split
    · rw [hfinish, cycle_masterTick hc]
    · exact cycle_masterTick hc s

include hcpu hsafe hplace hgo hfinish

/-- From any cycle of a sequence on, the ticks run what is left of its list. -/
theorem sequence_spans {c : Cycle} {cs : List Cycle} {s : State} {n : Nat} (hs : s.Live) (hph : s.cpu.phase = ph)
    (hn : s.cpu.cycle = n + 1) (hleft : cycles.drop n = c :: cs) : Spans s (finish (runCycles (c :: cs) s)) := by
  induction cs generalizing c s n with
  | nil =>
    obtain ⟨hget, hlen, -⟩ := drop_eq_cons hleft
    have hone := sequenceCycle_spans hcpu hplace hfinish hs hph hn hget
    rw [if_pos (show cycles.length ≤ n + 1 from hlen.le)] at hone
    rw [runCycles_cons_goOn (hgo c (List.mem_of_getElem? hget)), runCycles_nil]
    exact hone
  | cons d ds ih =>
    obtain ⟨hget, hlen, hnext⟩ := drop_eq_cons hleft
    have hmem := List.mem_of_getElem? hget
    have hone := sequenceCycle_spans hcpu hplace hfinish hs hph hn hget
    rw [if_neg (by rw [hlen, List.length_cons]; omega)] at hone
    obtain ⟨hph', hn', -⟩ := cycle_place (hplace c hmem) s
    rw [runCycles_cons_goOn (hgo c hmem)]
    exact hone.trans (ih (cycle_live (hsafe c hmem) hs) (hph'.trans hph) (by rw [hn', hn]) hnext)

/-- A step that runs a sequence from its first cycle. -/
theorem finishSequence_spans {s : State} (hs : s.Live) (hph : s.cpu.phase = ph) (hone : s.cpu.cycle = 1)
    (hne : cycles ≠ []) (hlive : ∀ s, SafeKept s (finish s)) :
    ∃ t, finishSequence cycles finish s = .next t ∧ Spans s t := by
  obtain ⟨c, cs, rfl⟩ := List.exists_cons_of_ne_nil hne
  refine ⟨_, ?_, sequence_spans hcpu hsafe hplace hgo hfinish hs hph hone rfl⟩
  unfold finishSequence
  rw [hone, Nat.sub_self, List.drop_zero]
  exact outcome_ready (((runCycles_safeKept hsafe s).trans (hlive _)).live hs).ready

end Sequence

theorem interruptCycles_keepPlace (k : Interrupt) : CyclesKeepPlace (interruptCycles k) := by
  simp [interruptCycles, takeException_keepPlace]

theorem resetCycles_keepPlace : CyclesKeepPlace resetCycles := by simp [resetCycles]

/-- Each cycle of the two sequences is a read or a write, and none ends its sequence. -/
theorem interruptCycles_goOn (k : Interrupt) : CyclesGoOn (interruptCycles k) := by
  simp only [CyclesGoOn, interruptCycles, takeException, vectorCycles, List.cons_append, List.nil_append,
    List.forall_mem_cons]
  exact ⟨fun _ => rfl, fun _ => rfl, fun _ => rfl, fun _ => rfl, fun _ => rfl, fun _ => rfl, fun _ => rfl, nofun⟩

theorem resetCycles_goOn : CyclesGoOn resetCycles := by
  simp only [CyclesGoOn, resetCycles, vectorCycles, List.cons_append, List.nil_append, List.forall_mem_cons]
  exact ⟨fun _ => rfl, fun _ => rfl, fun _ => rfl, fun _ => rfl, fun _ => rfl, fun _ => rfl, fun _ => rfl, nofun⟩

/-! ## Instructions (R401) -/

/-- The CPU is inside an instruction with the program `p`, `n` of whose cycles after T1 are done (R107). -/
structure Executing (p : Program) (n : Nat) (s : State) : Prop where
  live : s.Live
  program : programAt s.cpu.opcode = p
  phase : s.cpu.phase = .execute
  cycle : s.cpu.cycle = n + 2

theorem Executing.next {p : Program} {n : Nat} {s : State} {c : Cycle} (h : Executing p n s)
    (hsafe : Cycle.KeepsSafe c) (hplace : Cycle.KeepsPlace c) : Executing p (n + 1) (runCycle c s.awaitCpu).1 := by
  obtain ⟨hphase, hcycle, hopcode⟩ := cycle_place hplace s
  exact ⟨cycle_live hsafe h.live, by rw [hopcode]; exact h.program, hphase.trans h.phase, by rw [hcycle, h.cycle]⟩

theorem endInstruction_sched (inhibit : Bool) (s : State) : (endInstruction inhibit s).sched = s.sched := by
  obtain ⟨-, -, -, -, -, -, -, hsched, -⟩ := endInstruction_ends inhibit s s.cpu
  exact hsched

/-- There is no decimal-mode cycle (R10, R602). -/
theorem endCycle_eq (p : Program) (s : State) : p.endCycle s = endInstruction p.inhibit s := by
  rw [Program.endCycle, decimalMode_false, Bool.and_false, if_neg Bool.false_ne_true]

section Ends
variable {p : Program} {n : Nat}

theorem cycles_length (p : Program) : p.cycles.length = p.operands.length + p.body.length := by
  rw [Program.cycles, List.length_append, Program.fetches, List.length_map]

/-- Past the operand bytes and before the last cycle, an instruction ends only where its cycle says so. -/
theorem endsAfter_body (hlen : n < p.cycles.length) (hn : p.operands.length < n) (ended : Bool) (c : Cpu) :
    p.endsAfter n ended c = ended := by
  simp [Program.endsAfter, Nat.not_le.mpr hlen, Nat.ne_of_gt hn]

/-- With its last operand byte an instruction ends where no cycle is left, or none is made. -/
theorem endsAfter_fetches (c : Cpu) :
    p.endsAfter p.operands.length false c = (p.body.isEmpty || p.skip c) := by
  cases hbody : p.body <;> simp [Program.endsAfter, cycles_length, hbody]

/-- Between its operand bytes an instruction does not end. -/
theorem endsAfter_operand (hn : n < p.operands.length) (c : Cpu) : p.endsAfter n false c = false := by
  have hlen : n < p.cycles.length := by rw [cycles_length]; omega
  simp [Program.endsAfter, Nat.not_le.mpr hlen, Nat.ne_of_lt hn]

end Ends

section Instruction
variable {p : Program} {n : Nat} {s : State} {c : Cycle} {cs : List Cycle}
  (hfinish : ∀ s, (p.finish s).sched = s.sched)
include hfinish

/-- The ticks up to one cycle of an instruction, and the end of the instruction when it is the last. -/
theorem Executing.spans (h : Executing p n s) (hplace : Cycle.KeepsPlace c) (hget : p.cycles[n]? = some c) :
    Spans s (if p.endsAfter (n + 1) (runCycle c s.awaitCpu).2 (runCycle c s.awaitCpu).1.cpu then
      endInstruction p.inhibit (p.finish (runCycle c s.awaitCpu).1) else (runCycle c s.awaitCpu).1) := by
  refine spans_cpuCycle h.live ?_ ?_
  · have hone : n + 2 - 1 = n + 1 := rfl
    unfold cpuCycle
    rw [awaitCpu_cpu, h.phase]
    simp only [executeCycle, awaitCpu_cpu, h.program, h.cycle, Nat.add_sub_cancel, hget, endCycle_eq, hone]
  · split
    · rw [endInstruction_sched, hfinish, cycle_masterTick hplace]
    · exact cycle_masterTick hplace s

omit hfinish in
theorem rest_of_done (h : (p.body.isEmpty || p.skip s.cpu) = true) : p.rest s = p.finish s := by
  unfold Program.rest
  split
  · rfl
  · rename_i hskip
    rw [Bool.not_eq_true] at hskip
    rw [hskip, Bool.or_false, List.isEmpty_iff] at h
    rw [h, runCycles_nil]

variable (hsafe : p.KeepsSafe) (hplace : CyclesKeepPlace p.body)
include hsafe hplace

/-- From any cycle after the operand bytes on, the ticks run what is left of the program's list. -/
theorem body_spans (h : Executing p n s) (hn : p.operands.length ≤ n) (hleft : p.cycles.drop n = c :: cs)
    (hmem : c :: cs ⊆ p.body) :
    Spans s (endInstruction p.inhibit (p.finish (runCycles (c :: cs) s))) := by
  induction cs generalizing c s n with
  | nil =>
    obtain ⟨hget, hlen, -⟩ := drop_eq_cons hleft
    have hone := h.spans hfinish (hplace c (hmem List.mem_cons_self)) hget
    rw [if_pos (by simp [Program.endsAfter, hlen])] at hone
    rw [runCycles, runCycles_nil, ite_self]
    exact hone
  | cons d ds ih =>
    obtain ⟨hget, hlen, hnext⟩ := drop_eq_cons hleft
    rw [List.cons_subset] at hmem
    obtain ⟨hc, hds⟩ := hmem
    have hone := h.spans hfinish (hplace c hc) hget
    rw [endsAfter_body (by rw [hlen, List.length_cons]; omega) (by omega)] at hone
    rw [runCycles]
    split
    case isTrue hended =>
      rw [if_pos hended] at hone
      exact hone
    case isFalse hended =>
      rw [if_neg hended] at hone
      exact hone.trans (ih (h.next (hsafe.body c hc) (hplace c hc)) (by omega) hnext hds)

/-- With the operand bytes fetched, the ticks run the program's own cycles, if it has any and they are not skipped. -/
theorem rest_spans (h : Executing p p.operands.length s) (hbody : p.body ≠ []) (hskip : p.skip s.cpu = false) :
    Spans s (endInstruction p.inhibit (p.rest s)) := by
  obtain ⟨c, cs, hcs⟩ := List.exists_cons_of_ne_nil hbody
  have hleft : p.cycles.drop p.operands.length = c :: cs := by
    rw [Program.cycles, List.drop_left' (by rw [Program.fetches, List.length_map]), hcs]
  rw [Program.rest, hskip, if_neg Bool.false_ne_true, hcs]
  exact body_spans hfinish hsafe hplace h (Nat.le_refl _) hleft (by rw [hcs]; exact List.Subset.refl _)

variable (hlatches : ∀ l ∈ p.operands, ∀ b c, (l b c).place = c.place)
include hlatches

omit hsafe hplace in
/-- The ticks up to the fetch of one operand byte, after which the other fetches follow. -/
theorem fetch_spans (h : Executing p n s) (hget : p.fetches[n]? = some c) :
    Spans s (if p.endsAfter (n + 1) false (runCycle c s.awaitCpu).1.cpu then
      endInstruction p.inhibit (p.finish (runCycle c s.awaitCpu).1) else (runCycle c s.awaitCpu).1) ∧
    Executing p (n + 1) (runCycle c s.awaitCpu).1 ∧
    ∀ cs, runCycles (c :: cs) s = runCycles cs (runCycle c s.awaitCpu).1 := by
  obtain ⟨l, hl, rfl⟩ := List.mem_map.mp (List.mem_of_getElem? hget)
  have hc : Cycle.KeepsPlace (operandCycle l) := readCycle_keepsPlace _ fun b c => hlatches l hl b c.incPc
  have hgo : ∀ u, (operandCycle l u).2 = false := fun _ => rfl
  have hin : p.cycles[n]? = some (operandCycle l) := by
    rw [Program.cycles, List.getElem?_append_left (List.getElem?_eq_some_iff.mp hget).1, hget]
  exact ⟨h.spans hfinish hc hin, h.next (operandCycle_keepsSafe l) hc,
    fun cs => runCycles_cons_goOn hgo cs s⟩

/-- From any operand byte on, the ticks run the fetches that are left, and then what the program does. -/
theorem fetches_spans (h : Executing p n s) (hleft : p.fetches.drop n = c :: cs) :
    Spans s (endInstruction p.inhibit (p.rest (runCycles (c :: cs) s))) := by
  have hoperands : p.fetches.length = p.operands.length := List.length_map _
  induction cs generalizing c s n with
  | nil =>
    obtain ⟨hget, hlen, -⟩ := drop_eq_cons hleft
    obtain ⟨hone, hnext, hrun⟩ := fetch_spans hfinish hlatches h hget
    have hn : n + 1 = p.operands.length := hlen.symm.trans hoperands
    rw [hn, endsAfter_fetches] at hone
    rw [hn] at hnext
    rw [hrun, runCycles_nil]
    cases hdone : p.body.isEmpty || p.skip (runCycle c s.awaitCpu).1.cpu with
    | true =>
      rw [hdone, if_pos rfl] at hone
      rw [rest_of_done hdone]
      exact hone
    | false =>
      rw [hdone, if_neg Bool.false_ne_true] at hone
      obtain ⟨hbody, hskip⟩ := Bool.or_eq_false_iff.mp hdone
      exact hone.trans (rest_spans hfinish hsafe hplace hnext (List.isEmpty_eq_false_iff.mp hbody) hskip)
  | cons d ds ih =>
    obtain ⟨hget, hlen, hrest⟩ := drop_eq_cons hleft
    obtain ⟨hone, hnext, hrun⟩ := fetch_spans hfinish hlatches h hget
    rw [List.length_cons] at hlen
    rw [endsAfter_operand (by omega), if_neg Bool.false_ne_true] at hone
    rw [hrun]
    exact hone.trans (ih hnext hrest)

/-- From the cycle after T1 on, the ticks run the whole program. -/
theorem instruction_spans (hbegins : p.Begins) (h : Executing p 0 s) :
    Spans s (endInstruction p.inhibit (p.rest (runCycles p.fetches s))) := by
  cases hbegins with
  | cycle => exact rest_spans hfinish hsafe hplace h (List.cons_ne_nil _ _) rfl
  | one => exact fetches_spans hfinish hsafe hplace hlatches h rfl
  | two => exact fetches_spans hfinish hsafe hplace hlatches h rfl

end Instruction

/-! ## Steps (R400) -/

theorem programOf_finish_sched (i : Instr) (s : State) : ((programOf i).finish s).sched = s.sched := by
  cases i <;> rfl

theorem Program.Begins.latches_place {p : Program} (h : p.Begins) :
    ∀ l ∈ p.operands, ∀ b c, (l b c).place = c.place := by
  cases h with
  | cycle => exact nofun
  | one h => exact List.forall_mem_singleton.mpr h.place_eq
  | two h => exact List.forall_mem_cons.mpr ⟨FirstLatch.lo.place_eq, List.forall_mem_singleton.mpr h.place_eq⟩

theorem opcodeFetched_sched (s : State) : (opcodeFetched s).sched = s.awaitCpu.sched := by
  obtain ⟨-, -, -, hsched, -⟩ := cpuRead_same s.awaitCpu.cpu.pc s.awaitCpu
  unfold opcodeFetched runCycle fetchOpcode readCycle
  simp only [State.mapCpu_sched, hsched]

/-- The first cycle of an instruction (R401): the fetch of its opcode byte, which selects its program. -/
theorem opcodeFetched_spans {s : State} (hs : s.Live) (hphase : s.cpu.phase = .fetch) (hcycle : s.cpu.cycle = 1) :
    Spans s (opcodeFetched s) ∧ Executing (programAt (opcodeFetched s).cpu.opcode) 0 (opcodeFetched s) := by
  constructor
  · refine spans_cpuCycle hs ?_ (by rw [opcodeFetched_sched])
    unfold cpuCycle opcodeFetched
    rw [awaitCpu_cpu, hphase]
  · refine ⟨cycle_live fetchOpcode_keepsSafe hs, rfl, ?_, ?_⟩
    · rw [opcodeFetched_eq]
      rfl
    · rw [opcodeFetched_eq]
      exact congrArg (· + 1) hcycle

theorem step_fetch_spans {s : State} (hs : s.Live) (hphase : s.cpu.phase = .fetch) (hcycle : s.cpu.cycle = 1) :
    ∃ t, step s = .next t ∧ Spans s t := by
  obtain ⟨hopcode, hexecuting⟩ := opcodeFetched_spans hs hphase hcycle
  have hbegins := programAt_begins (opcodeFetched s).cpu.opcode
  have hspans := instruction_spans (programOf_finish_sched _) (programAt_keepsSafe _) (programOf_keepPlace _)
    hbegins.latches_place hbegins hexecuting
  have hlive : (endInstruction (programAt (opcodeFetched s).cpu.opcode).inhibit
      ((programAt (opcodeFetched s).cpu.opcode).rest (fetchInstruction s))).Live :=
    ((((fetchInstruction_safeKept s).trans (rest_safeKept (programAt_keepsSafe _) _))).trans
      (endInstruction_safeKept _ _)).live hs
  exact ⟨_, (step_fetch (ready_not_faulted hs.ready) hphase).trans (outcome_ready hlive.ready),
    hopcode.trans hspans⟩

theorem cpuCycle_interrupt {s : State} {k : Interrupt} (h : s.cpu.phase = .interrupt k) :
    cpuCycle s = sequenceCycle (interruptCycles k) endInterrupt s := by unfold cpuCycle; rw [h]

theorem cpuCycle_reset {s : State} (h : s.cpu.phase = .reset) :
    cpuCycle s = sequenceCycle resetCycles endReset s := by unfold cpuCycle; rw [h]

theorem step_interrupt {s : State} {k : Interrupt} (hs : s.faulted = false) (h : s.cpu.phase = .interrupt k) :
    step s = finishSequence (interruptCycles k) endInterrupt s := by
  unfold step
  rw [hs, if_neg Bool.false_ne_true, h]

theorem step_reset {s : State} (hs : s.faulted = false) (h : s.cpu.phase = .reset) :
    step s = finishSequence resetCycles endReset s := by
  unfold step
  rw [hs, if_neg Bool.false_ne_true, h]

/-- At a boundary a step runs a whole sequence, which is the ticks up to the last of its cycles. -/
theorem step_spans {s : State} (hs : s.Live) (hboundary : s.cpu.atBoundary = true) :
    ∃ t, step s = .next t ∧ Spans s t := by
  obtain ⟨hone, hphase⟩ := Bool.and_eq_true_iff.mp hboundary
  have hcycle : s.cpu.cycle = 1 := eq_of_beq hone
  cases hph : s.cpu.phase with
  | fetch => exact step_fetch_spans hs hph hcycle
  | execute => rw [hph] at hphase; cases hphase
  | decimalExtra => rw [hph] at hphase; cases hphase
  | interrupt k =>
    rw [step_interrupt (ready_not_faulted hs.ready) hph]
    exact finishSequence_spans (fun _ => cpuCycle_interrupt) (interruptCycles_keepSafe k)
      (interruptCycles_keepPlace k) (interruptCycles_goOn k) (fun _ => rfl) hs hph hcycle (List.cons_ne_nil _ _)
      endInterrupt_safeKept
  | reset =>
    rw [step_reset (ready_not_faulted hs.ready) hph]
    exact finishSequence_spans (fun _ => cpuCycle_reset) resetCycles_keepSafe resetCycles_keepPlace resetCycles_goOn
      (fun _ => rfl) hs hph hcycle (List.cons_ne_nil _ _) endReset_safeKept

/-- Settles O10: each cycle of the sequence is the ticks up to it, and the ticks of the cycles follow each other. -/
theorem stepIsItsMasterTicks : Obligations.StepIsItsMasterTicks := by
  intro s hready hwf hboundary
  obtain ⟨t, ht, n, hn, hticks, hadvance⟩ := step_spans ⟨hready, hwf⟩ hboundary
  refine ⟨t, ht, by omega, ?_⟩
  rw [hadvance, Nat.add_sub_cancel_left]
  exact hticks

end Sys2Proof.Machine
end

section
/-! PROOFS. Loads, stores, register transfers and stack operations (file 41), with LAX, LAS and SAX of file 44. -/

namespace Sys2Proof.Machine

/-! ## What the operations do to the registers -/

/-- The operation acts on the registers as `f` does, whatever the temporaries hold. -/
def ActsAs (op : Cpu → Cpu) (f : Regs → Regs) : Prop := ∀ c, (op c).regs = f c.regs

theorem ActsAs.of_regs {op : Cpu → Cpu} {f : Regs → Regs} (h : ActsAs op f) {c : Cpu} {g : Regs} (hc : c.regs = g) :
    (op c).regs = f g := (h c).trans (congrArg f hc)

/-! N and Z (R11) are written by `setNZ` in the model and by `withNZ` in the statements: the same, unfolded. -/

theorem opLda_acts (v : Byte) : ActsAs (opLda v) fun g => { g with a := v, p := withNZ g.p v } := fun _ => rfl
theorem opLdx_acts (v : Byte) : ActsAs (opLdx v) fun g => { g with x := v, p := withNZ g.p v } := fun _ => rfl
theorem opLdy_acts (v : Byte) : ActsAs (opLdy v) fun g => { g with y := v, p := withNZ g.p v } := fun _ => rfl
theorem opLax_acts (v : Byte) : ActsAs (opLax v) fun g => { g with a := v, x := v, p := withNZ g.p v } := fun _ => rfl
theorem opLas_acts (v : Byte) : ActsAs (opLas v) fun g =>
    { g with a := v &&& g.s, x := v &&& g.s, s := v &&& g.s, p := withNZ g.p (v &&& g.s) } := fun _ => rfl
theorem opPlp_acts (v : Byte) : ActsAs (opPlp v) fun g => { g with p := Flags.ofByte v } := fun _ => rfl
theorem opTax_acts : ActsAs opTax fun g => { g with x := g.a, p := withNZ g.p g.a } := fun _ => rfl
theorem opTay_acts : ActsAs opTay fun g => { g with y := g.a, p := withNZ g.p g.a } := fun _ => rfl
theorem opTxa_acts : ActsAs opTxa fun g => { g with a := g.x, p := withNZ g.p g.x } := fun _ => rfl
theorem opTya_acts : ActsAs opTya fun g => { g with a := g.y, p := withNZ g.p g.y } := fun _ => rfl
theorem opTsx_acts : ActsAs opTsx fun g => { g with x := g.s, p := withNZ g.p g.s } := fun _ => rfl
theorem opTxs_acts : ActsAs opTxs fun g => { g with s := g.x } := fun _ => rfl
theorem opInx_acts : ActsAs opInx fun g => { g with x := g.x + 1, p := withNZ g.p (g.x + 1) } := fun _ => rfl
theorem opIny_acts : ActsAs opIny fun g => { g with y := g.y + 1, p := withNZ g.p (g.y + 1) } := fun _ => rfl
theorem opDex_acts : ActsAs opDex fun g => { g with x := g.x - 1, p := withNZ g.p (g.x - 1) } := fun _ => rfl
theorem opDey_acts : ActsAs opDey fun g => { g with y := g.y - 1, p := withNZ g.p (g.y - 1) } := fun _ => rfl

/-! ## Loads (R501 to R503, R806, R814) -/

/-- An instruction of the read class writes the registers as its operation acts on them with the byte read. -/
theorem read_acts {i : Instr} {w : Word} {s : State} {op : Byte → Cpu → Cpu} {f : Byte → Regs → Regs}
    (hs : s.ready = true) (hop : ∀ v, ActsAs (op v) (f v)) (hp : ReadsAs (programOf i) i.operandBytes i.mode w op)
    (hw : operandWord i = w) (hi : (programOf i).inhibit = false) :
    ∃ t, exec i s = .next t ∧ ReadEnds i s (fun v => f v s.cpu.regs) t :=
  read_completes hs hp hw hi fun v _ hc => (hop v).of_regs hc

/-- Settles O21: each form makes the read accesses of its mode, and its operation acts on the registers as its rule
says. -/
theorem loadsSetTheirRegister : Obligations.LoadsSetTheirRegister := by
  intro b w s hs
  simp only [List.forall_mem_cons, List.not_mem_nil, false_imp_iff, implies_true, and_true]
  refine ⟨?_, ?_, ?_, ?_, ?_⟩
  · exact ⟨read_acts (i := .ldaIzx b) hs opLda_acts (izxRead_as _ b) rfl rfl,
      read_acts (i := .ldaZp b) hs opLda_acts (zpRead_as _ b) rfl rfl,
      read_acts (i := .ldaImm b) hs opLda_acts (immRead_as _ b) rfl rfl,
      read_acts (i := .ldaAbs w) hs opLda_acts (absRead_as _ w) (join_hi_lo w) rfl,
      read_acts (i := .ldaIzy b) hs opLda_acts (izyRead_as _ b) rfl rfl,
      read_acts (i := .ldaZpx b) hs opLda_acts (zpxRead_as _ b) rfl rfl,
      read_acts (i := .ldaAbsy w) hs opLda_acts (absyRead_as _ w) (join_hi_lo w) rfl,
      read_acts (i := .ldaAbsx w) hs opLda_acts (absxRead_as _ w) (join_hi_lo w) rfl⟩
  · exact ⟨read_acts (i := .ldxImm b) hs opLdx_acts (immRead_as _ b) rfl rfl,
      read_acts (i := .ldxZp b) hs opLdx_acts (zpRead_as _ b) rfl rfl,
      read_acts (i := .ldxAbs w) hs opLdx_acts (absRead_as _ w) (join_hi_lo w) rfl,
      read_acts (i := .ldxZpy b) hs opLdx_acts (zpyRead_as _ b) rfl rfl,
      read_acts (i := .ldxAbsy w) hs opLdx_acts (absyRead_as _ w) (join_hi_lo w) rfl⟩
  · exact ⟨read_acts (i := .ldyImm b) hs opLdy_acts (immRead_as _ b) rfl rfl,
      read_acts (i := .ldyZp b) hs opLdy_acts (zpRead_as _ b) rfl rfl,
      read_acts (i := .ldyAbs w) hs opLdy_acts (absRead_as _ w) (join_hi_lo w) rfl,
      read_acts (i := .ldyZpx b) hs opLdy_acts (zpxRead_as _ b) rfl rfl,
      read_acts (i := .ldyAbsx w) hs opLdy_acts (absxRead_as _ w) (join_hi_lo w) rfl⟩
  · exact ⟨read_acts (i := .laxIzx b) hs opLax_acts (izxRead_as _ b) rfl rfl,
      read_acts (i := .laxZp b) hs opLax_acts (zpRead_as _ b) rfl rfl,
      read_acts (i := .laxAbs w) hs opLax_acts (absRead_as _ w) (join_hi_lo w) rfl,
      read_acts (i := .laxIzy b) hs opLax_acts (izyRead_as _ b) rfl rfl,
      read_acts (i := .laxZpy b) hs opLax_acts (zpyRead_as _ b) rfl rfl,
      read_acts (i := .laxAbsy w) hs opLax_acts (absyRead_as _ w) (join_hi_lo w) rfl⟩
  · exact read_acts (i := .lasAbsy w) hs opLas_acts (absyRead_as _ w) (join_hi_lo w) rfl

/-! ## Stores (R504 to R506, R805) -/

theorem regs_a {c d : Cpu} (h : c.regs = d.regs) : c.a = d.a := congrArg Regs.a h

theorem saxByte_of_regs {c d : Cpu} (h : c.regs = d.regs) : saxByte c = d.a &&& d.x :=
  congrArg (fun g : Regs => g.a &&& g.x) h

/-- Settles O22: each form makes the write accesses of its mode, and none of them changes the registers the byte is
made of. -/
theorem storesWriteTheirByte : Obligations.StoresWriteTheirByte := by
  intro b w s hs
  simp only [List.forall_mem_cons, List.not_mem_nil, false_imp_iff, implies_true, and_true]
  refine ⟨?_, ?_, ?_, ?_⟩
  · exact ⟨write_completes (i := .staIzx b) hs (izxWrite_as _ b) rfl rfl fun _ => regs_a,
      write_completes (i := .staZp b) hs (zpWrite_as _ b) rfl rfl fun _ => regs_a,
      write_completes (i := .staAbs w) hs (absWrite_as _ w) (join_hi_lo w) rfl fun _ => regs_a,
      write_completes (i := .staIzy b) hs (izyWrite_as _ b) rfl rfl fun _ => regs_a,
      write_completes (i := .staZpx b) hs (zpxWrite_as _ b) rfl rfl fun _ => regs_a,
      write_completes (i := .staAbsy w) hs (absyWrite_as _ w) (join_hi_lo w) rfl fun _ => regs_a,
      write_completes (i := .staAbsx w) hs (absxWrite_as _ w) (join_hi_lo w) rfl fun _ => regs_a⟩
  · exact ⟨write_completes (i := .stxZp b) hs (zpWrite_as _ b) rfl rfl fun _ => regs_x,
      write_completes (i := .stxAbs w) hs (absWrite_as _ w) (join_hi_lo w) rfl fun _ => regs_x,
      write_completes (i := .stxZpy b) hs (zpyWrite_as _ b) rfl rfl fun _ => regs_x⟩
  · exact ⟨write_completes (i := .styZp b) hs (zpWrite_as _ b) rfl rfl fun _ => regs_y,
      write_completes (i := .styAbs w) hs (absWrite_as _ w) (join_hi_lo w) rfl fun _ => regs_y,
      write_completes (i := .styZpx b) hs (zpxWrite_as _ b) rfl rfl fun _ => regs_y⟩
  · exact ⟨write_completes (i := .saxIzx b) hs (izxWrite_as _ b) rfl rfl fun _ => saxByte_of_regs,
      write_completes (i := .saxZp b) hs (zpWrite_as _ b) rfl rfl fun _ => saxByte_of_regs,
      write_completes (i := .saxAbs w) hs (absWrite_as _ w) (join_hi_lo w) rfl fun _ => saxByte_of_regs,
      write_completes (i := .saxZpy b) hs (zpyWrite_as _ b) rfl rfl fun _ => saxByte_of_regs⟩

/-! ## Transfers and counts (R507 to R512, R617 to R620) -/

/-- An implied instruction writes the registers as its operation acts on them (R410). -/
theorem implied_acts {i : Instr} {s : State} {op : Cpu → Cpu} {f : Regs → Regs} (hs : s.ready = true)
    (hp : programOf i = implied op) (hops : i.operandBytes = []) (hop : ActsAs op f) :
    ∃ t, exec i s = .next t ∧ ImpliedEnds false s (f s.cpu.regs) t := by
  refine implied_completes hs hops (op := op) ?_ ?_ fun _ hc => hop.of_regs hc
  · rw [hp]
    exact fun _ => rfl
  · rw [hp]
    rfl

/-- Settles O23: each is an implied instruction whose operation acts on the registers as its rule says. -/
theorem registerTransfersAndCounts : Obligations.RegisterTransfersAndCounts := by
  intro s hs
  simp only [List.forall_mem_cons, List.not_mem_nil, false_imp_iff, implies_true, and_true]
  exact ⟨implied_acts hs rfl rfl opTax_acts, implied_acts hs rfl rfl opTay_acts, implied_acts hs rfl rfl opTxa_acts,
    implied_acts hs rfl rfl opTya_acts, implied_acts hs rfl rfl opTsx_acts, implied_acts hs rfl rfl opTxs_acts,
    implied_acts hs rfl rfl opInx_acts, implied_acts hs rfl rfl opIny_acts, implied_acts hs rfl rfl opDex_acts,
    implied_acts hs rfl rfl opDey_acts⟩

/-! ## Pushes (R513, R514) -/

/-- The byte PHP and BRK push has bits 4 and 5 set (R105). -/
theorem pushedBySoftware_eq_or (p : Flags) : p.pushedBySoftware = p.byte false false ||| 0x30 := by
  obtain ⟨c, z, i, d, v, n⟩ := p
  revert c z i d v n
  decide

/-- The frame of an instruction whose one store is a bus write from `M`, when `M` has only read since `s`. -/
theorem Ends.busWrite_frame {inh : Bool} {a : Word} {v : Byte} {s M t : State} {g : Regs}
    (he : Ends inh (busWrite a v M) g t) (hM : M.ready = true) (hkept : StateKept s M) (hread : ReadsOnly s M) :
    KeepsCells [M.awaitCpu.storesTo a] s t ∧
      (∀ dev idx, M.awaitCpu.storesTo a = some (dev, idx) → t.cell dev idx = v) ∧
      SameWiring s t ∧ t.diagnostics = s.diagnostics := by
  obtain ⟨hdevices, -, -, hdiag⟩ := hread
  have hcell (dev idx : Nat) := (cell_devices he.devices dev idx).trans (busWrite_cell a v M dev idx hM)
  have hall : StateKept s t := (hkept.trans (busWrite_kept a v M)).trans he.kept
  refine ⟨fun dev idx hother => ?_, fun dev idx hstored => ?_, hall.sameWiring, ?_⟩
  · rw [hcell, if_neg (fun h => hother (List.mem_singleton.mpr h.symm))]
    exact cell_devices hdevices dev idx
  · rw [hcell, if_pos hstored]
  · rw [he.diagnostics, busWrite_diagnostics, hdiag]

/-- What R513 and R514 say of a push of `v`, from `s` to `t`. -/
def PushEnds (s : State) (v : Byte) (t : State) : Prop :=
  let s1 := (busRead s.cpu.pc s).2
  Ends false (pushAt s.cpu.s v s1) { s.cpu.regs with s := s.cpu.s - 1 } t
    ∧ KeepsCells [s1.awaitCpu.storesTo (stackAddr s.cpu.s)] s t
    ∧ (∀ dev idx, s1.awaitCpu.storesTo (stackAddr s.cpu.s) = some (dev, idx) → t.cell dev idx = v)
    ∧ SameWiring s t ∧ t.diagnostics = s.diagnostics

/-- The cycles of a push: the dummy read, and the write at the top of the stack with S moved down by one. -/
theorem runCycles_dummyRead_push (v : Cpu → Byte) (M : State) (c : Cpu) :
    runCycles [dummyReadPc, pushCycle v] (M.setCpu c) =
      (pushAt c.s (v c.nextCycle) (busRead c.pc M).2).setCpu c.nextCycle.decS.nextCycle := by
  unfold dummyReadPc dummyRead
  rw [runCycles_read, runCycles_push, runCycles_nil, Cpu.nextCycle_s]

theorem push_completes {i : Instr} {s : State} {r : Cpu → Byte} {v : Byte} (hs : s.ready = true)
    (hp : programOf i = plain [] [dummyReadPc, pushCycle r] id) (hops : i.operandBytes = [])
    (hr : r s.cpu.nextCycle = v) : ∃ t, exec i s = .next t ∧ PushEnds s v t := by
  have hrest := afterCycles_plain hp s
  rw [hops, runCycles_dummyRead_push] at hrest
  have hread := busRead_ready (a := s.cpu.pc) hs
  obtain ⟨t, ht, he⟩ := exec_ends hrest (busWrite_ready hread)
  rw [hp] at he
  subst hr
  exact ⟨t, ht, he, he.busWrite_frame hread (busRead_kept _ s) (busRead_readsOnly _ s)⟩

/-! ## Pulls (R515, R516) -/

/-- The accesses of an instruction up to its first pulled byte: two dummy reads, and the pull. -/
def firstPull (s : State) : Byte × State := pullAt (s.cpu.s + 1) (pullAt s.cpu.s (busRead s.cpu.pc s).2).2

theorem firstPull_readsOnly (s : State) : ReadsOnly s (firstPull s).2 :=
  ((busRead_readsOnly _ s).trans (busRead_readsOnly _ _)).trans (busRead_readsOnly _ _)

theorem firstPull_ready {s : State} (h : s.ready = true) : (firstPull s).2.ready = true :=
  busRead_ready (busRead_ready (busRead_ready h))

/-- The cycles of a pull make those accesses and move S up by one. -/
theorem pullVal_as (op : Byte → Cpu → Cpu) (s : State) :
    ∃ c : Cpu, c.regs = { s.cpu.regs with s := s.cpu.s + 1 } ∧
      onVal op (runCycles pullVal (s.setCpu s.cpu)) = (firstPull s).2.setCpu (op (firstPull s).1 c) := by
  unfold pullVal dummyReadPc dummyRead pullDummy pullCycle
  rw [runCycles_read, runCycles_read, runCycles_read, runCycles_nil, onVal_setCpu]
  exact ⟨_, rfl, rfl⟩

theorem pull_completes {i : Instr} {s : State} {op : Byte → Cpu → Cpu} {f : Byte → Regs → Regs} {inh : Bool}
    (hs : s.ready = true) (hp : programOf i = { plain [] pullVal (onVal op) with inhibit := inh })
    (hops : i.operandBytes = []) (hop : ∀ v, ActsAs (op v) (f v)) :
    ∃ t, exec i s = .next t ∧
      Ends inh (firstPull s).2 (f (firstPull s).1 { s.cpu.regs with s := s.cpu.s + 1 }) t ∧ ReadsOnly s t := by
  have hrest : afterCycles i s = onVal op (runCycles pullVal (s.setCpu s.cpu)) := by
    unfold afterCycles
    rw [hp, hops]
    exact plain_rest [] pullVal (onVal op) _
  obtain ⟨c, hc, h⟩ := pullVal_as op s
  obtain ⟨t, ht, he⟩ := exec_ends (hrest.trans h) (firstPull_ready hs)
  rw [hp, (hop _).of_regs hc] at he
  exact ⟨t, ht, he, he.readsOnly (firstPull_readsOnly s)⟩

/-- Settles O24: the two pushes differ in their byte, the two pulls in what they do with theirs and in the poll. -/
theorem stackPushesAndPulls : Obligations.StackPushesAndPulls := by
  intro s hs
  refine ⟨?_, ?_, ?_⟩
  · simp only [List.forall_mem_cons, List.not_mem_nil, false_imp_iff, implies_true, and_true]
    exact ⟨push_completes (i := .pha) hs rfl rfl rfl,
      push_completes (i := .php) hs rfl rfl (pushedBySoftware_eq_or s.cpu.p)⟩
  · exact pull_completes (i := .pla) hs rfl rfl opLda_acts
  · exact pull_completes (i := .plp) hs rfl rfl opPlp_acts

end Sys2Proof.Machine
end

section
/-! PROOFS. Arithmetic, logic, comparisons, counts, shifts and rotates (file 42), with USBC of file 44. -/

namespace Sys2Proof.Machine

/-! ## The forms of an instruction (R303, R405) -/

/-- The operand a mode makes of its operand bytes (R303). -/
def wordOfOperands (ops : List Byte) : Word := joinBytes (ops[1]?.getD 0) (ops[0]?.getD 0)

/-- The programs of the read class with the operation `op`, each with its mode and operand bytes. ADC and SBC mark
theirs `decimal` (R602). -/
inductive ReadForm (op : Byte → Cpu → Cpu) : Mode → List Byte → Program → Prop
  | imm (b : Byte) : ReadForm op .imm [b] (immRead op)
  | zp (b : Byte) : ReadForm op .zp [b] (zpRead op)
  | zpx (b : Byte) : ReadForm op .zpx [b] (zpxRead op)
  | zpy (b : Byte) : ReadForm op .zpy [b] (zpyRead op)
  | abs (w : Word) : ReadForm op .abs [loByte w, hiByte w] (absRead op)
  | absx (w : Word) : ReadForm op .absx [loByte w, hiByte w] (absxRead op)
  | absy (w : Word) : ReadForm op .absy [loByte w, hiByte w] (absyRead op)
  | izx (b : Byte) : ReadForm op .izx [b] (izxRead op)
  | izy (b : Byte) : ReadForm op .izy [b] (izyRead op)
  | decimally {m : Mode} {ops : List Byte} {p : Program} (h : ReadForm op m ops p) : ReadForm op m ops p.decimally

/-- The programs of the rmw class with the new byte `new` and the operation `op`, likewise. -/
inductive RmwForm (new : Byte → Cpu → Byte) (op : Byte → Cpu → Cpu) : Mode → List Byte → Program → Prop
  | zp (b : Byte) : RmwForm new op .zp [b] (zpRmw new op)
  | zpx (b : Byte) : RmwForm new op .zpx [b] (zpxRmw new op)
  | abs (w : Word) : RmwForm new op .abs [loByte w, hiByte w] (absRmw new op)
  | absx (w : Word) : RmwForm new op .absx [loByte w, hiByte w] (absxRmw new op)
  | absy (w : Word) : RmwForm new op .absy [loByte w, hiByte w] (absyRmw new op)
  | izx (b : Byte) : RmwForm new op .izx [b] (izxRmw new op)
  | izy (b : Byte) : RmwForm new op .izy [b] (izyRmw new op)
  | decimally {m : Mode} {ops : List Byte} {p : Program} (h : RmwForm new op m ops p) :
      RmwForm new op m ops p.decimally

theorem wordOfOperands_two (w : Word) : wordOfOperands [loByte w, hiByte w] = w := join_hi_lo w

theorem ReadForm.readsAs {op : Byte → Cpu → Cpu} {m : Mode} {ops : List Byte} {p : Program}
    (h : ReadForm op m ops p) : ReadsAs p ops m (wordOfOperands ops) op := by
  induction h with
  | imm b => exact immRead_as op b
  | zp b => exact zpRead_as op b
  | zpx b => exact zpxRead_as op b
  | zpy b => exact zpyRead_as op b
  | izx b => exact izxRead_as op b
  | izy b => exact izyRead_as op b
  | abs w => rw [wordOfOperands_two]; exact absRead_as op w
  | absx w => rw [wordOfOperands_two]; exact absxRead_as op w
  | absy w => rw [wordOfOperands_two]; exact absyRead_as op w
  | decimally _ ih => exact ih.decimally

theorem ReadForm.inhibit {op : Byte → Cpu → Cpu} {m : Mode} {ops : List Byte} {p : Program}
    (h : ReadForm op m ops p) : p.inhibit = false := by
  induction h with
  | decimally _ ih => exact ih
  | _ => rfl

theorem RmwForm.modifiesAs {new : Byte → Cpu → Byte} {op : Byte → Cpu → Cpu} {m : Mode} {ops : List Byte}
    {p : Program} (h : RmwForm new op m ops p) : ModifiesAs p ops m (wordOfOperands ops) new op := by
  induction h with
  | zp b => exact zpRmw_as new op b
  | zpx b => exact zpxRmw_as new op b
  | izx b => exact izxRmw_as new op b
  | izy b => exact izyRmw_as new op b
  | abs w => rw [wordOfOperands_two]; exact absRmw_as new op w
  | absx w => rw [wordOfOperands_two]; exact absxRmw_as new op w
  | absy w => rw [wordOfOperands_two]; exact absyRmw_as new op w
  | decimally _ ih => exact ih.decimally

theorem RmwForm.inhibit {new : Byte → Cpu → Byte} {op : Byte → Cpu → Cpu} {m : Mode} {ops : List Byte}
    {p : Program} (h : RmwForm new op m ops p) : p.inhibit = false := by
  induction h with
  | decimally _ ih => exact ih
  | _ => rfl

/-- Instructions that are forms of the read class write the registers as their common operation acts on them. -/
theorem readForms_act {l : List Instr} {s : State} {op : Byte → Cpu → Cpu} {f : Byte → Regs → Regs}
    (hs : s.ready = true) (hop : ∀ v, ActsAs (op v) (f v))
    (hl : l.Forall fun i => ReadForm op i.mode i.operandBytes (programOf i)) :
    ∀ i ∈ l, ∃ t, exec i s = .next t ∧ ReadEnds i s (fun v => f v s.cpu.regs) t := by
  intro i hi
  have hform := List.forall_iff_forall_mem.mp hl i hi
  exact read_acts hs hop hform.readsAs rfl hform.inhibit

/-- The byte an rmw instruction writes is the one `f` makes of the byte read and the registers. -/
def YieldsAs (new : Byte → Cpu → Byte) (f : Byte → Regs → Byte) : Prop := ∀ v c, new v c = f v c.regs

/-- Instructions that are forms of the rmw class write the byte and the registers that `f` and `g` give of the byte
read and the registers before. -/
theorem rmwForms_act {l : List Instr} {s : State} {new : Byte → Cpu → Byte} {op : Byte → Cpu → Cpu}
    {f : Byte → Regs → Byte} {g : Byte → Regs → Regs} (hs : s.ready = true) (hnew : YieldsAs new f)
    (hop : ∀ v, ActsAs (op v) (g v)) (hl : l.Forall fun i => RmwForm new op i.mode i.operandBytes (programOf i)) :
    ∀ i ∈ l, ∃ t, exec i s = .next t ∧ RmwEnds i s (f · s.cpu.regs) (g · s.cpu.regs) t := by
  intro i hi
  have hform := List.forall_iff_forall_mem.mp hl i hi
  exact rmw_completes hs hform.modifiesAs rfl hform.inhibit (fun v c hc => (hnew v c).trans (congrArg (f v) hc))
    fun v _ hc => (hop v).of_regs hc

/-! ## Addition and subtraction (R600, R601, R604, R605, R813) -/

theorem flagNat_lt (c : Bool) : flagNat c < 2 := by cases c <;> decide

/-- The signed overflow of R600 is a signed sum outside -128..127. -/
theorem overflow_eq (a m : Byte) (c : Bool) : overflow a m (BitVec.ofNat 8 (a.toNat + m.toNat + flagNat c)) =
    decide (a.toInt + m.toInt + flagNat c < -128 ∨ 127 < a.toInt + m.toInt + flagNat c) := by
  have ha := a.isLt
  have hm := m.isLt
  have hc := flagNat_lt c
  rw [Bool.eq_iff_iff, decide_eq_true_iff]
  simp only [overflow, BitVec.msb_eq_decide, BitVec.toInt_eq_toNat_cond, BitVec.toNat_ofNat, Bool.and_eq_true,
    beq_iff_eq, bne_iff_ne, ne_eq, decide_eq_decide]
  omega

/-- What an addition leaves: the result in A, the carry, the overflow, and N and Z. -/
def sumRegs (g : Regs) (r : Byte) (carry overflowed : Bool) : Regs :=
  { g with a := r, p := { withCNZ g.p carry r with v := overflowed } }

theorem opAdc_acts (m : Byte) : ActsAs (opAdc m) fun g =>
    sumRegs g (BitVec.ofNat 8 (g.a.toNat + m.toNat + flagNat g.p.c))
      (decide (255 < g.a.toNat + m.toNat + flagNat g.p.c))
      (decide (g.a.toInt + m.toInt + flagNat g.p.c < -128 ∨ 127 < g.a.toInt + m.toInt + flagNat g.p.c)) :=
  fun c => congrArg (sumRegs c.regs _ _) (overflow_eq c.a m c.p.c)

/-- SBC adds the complement of the byte (R604, R605). -/
theorem opSbc_eq_opAdc (m : Byte) : opSbc m = opAdc (m ^^^ 0xFF) := by
  funext c
  have hsum : sbcSum c.decimalMode c.a m c.p.c = adcSum c.decimalMode c.a (m ^^^ 0xFF) c.p.c := by
    rw [decimalMode_false]
    rfl
  unfold opSbc opAdc
  rw [hsum]

theorem complement_toNat (m : Byte) : (m ^^^ 0xFF).toNat = 255 - m.toNat := by
  have h : m ^^^ 0xFF = ~~~m := BitVec.xor_allOnes
  rw [h, BitVec.toNat_not]

theorem complement_toInt (m : Byte) : (m ^^^ 0xFF).toInt = -1 - m.toInt := by
  have hm := m.isLt
  rw [BitVec.toInt_eq_toNat_cond, BitVec.toInt_eq_toNat_cond, complement_toNat]
  omega

theorem opSbc_acts (m : Byte) : ActsAs (opSbc m) fun g =>
    sumRegs g (BitVec.ofInt 8 ((g.a.toNat : Int) - m.toNat - (1 - flagNat g.p.c)))
      (decide ((0 : Int) ≤ (g.a.toNat : Int) - m.toNat - (1 - flagNat g.p.c)))
      (decide (g.a.toInt - m.toInt - (1 - flagNat g.p.c) < -128 ∨
        127 < g.a.toInt - m.toInt - (1 - flagNat g.p.c))) := by
  intro c
  have hm := m.isLt
  rw [opSbc_eq_opAdc, opAdc_acts, complement_toNat, complement_toInt]
  generalize c.regs = g
  have hresult : BitVec.ofNat 8 (g.a.toNat + (255 - m.toNat) + flagNat g.p.c) =
      BitVec.ofInt 8 ((g.a.toNat : Int) - m.toNat - (1 - flagNat g.p.c)) := by
    apply BitVec.eq_of_toNat_eq
    rw [BitVec.toNat_ofNat, BitVec.toNat_ofInt]
    omega
  have hcarry : 255 < g.a.toNat + (255 - m.toNat) + flagNat g.p.c ↔
      (0 : Int) ≤ (g.a.toNat : Int) - m.toNat - (1 - flagNat g.p.c) := by omega
  have hsigned : g.a.toInt + (-1 - m.toInt) + flagNat g.p.c = g.a.toInt - m.toInt - (1 - flagNat g.p.c) := by omega
  simp only [hresult, hcarry, hsigned]

/-- Settles O25: each form makes the read accesses of its mode, ADC adds in exact integers, and SBC adds the
complement. -/
theorem addAndSubtract : Obligations.AddAndSubtract := by
  intro b w s hs
  refine ⟨readForms_act hs opAdc_acts ?_, readForms_act hs opSbc_acts ?_⟩
  · exact ⟨.decimally (.izx b), .decimally (.zp b), .decimally (.imm b), .decimally (.abs w), .decimally (.izy b),
      .decimally (.zpx b), .decimally (.absy w), .decimally (.absx w)⟩
  · exact ⟨.decimally (.izx b), .decimally (.zp b), .decimally (.imm b), .decimally (.abs w), .decimally (.izy b),
      .decimally (.zpx b), .decimally (.absy w), .decimally (.absx w), .decimally (.imm b)⟩

/-! ## Logic and comparisons (R607 to R614) -/

theorem opAnd_acts (m : Byte) : ActsAs (opAnd m) fun g => { g with a := g.a &&& m, p := withNZ g.p (g.a &&& m) } :=
  fun _ => rfl
theorem opOra_acts (m : Byte) : ActsAs (opOra m) fun g => { g with a := g.a ||| m, p := withNZ g.p (g.a ||| m) } :=
  fun _ => rfl
theorem opEor_acts (m : Byte) : ActsAs (opEor m) fun g => { g with a := g.a ^^^ m, p := withNZ g.p (g.a ^^^ m) } :=
  fun _ => rfl
theorem opBit_acts (m : Byte) : ActsAs (opBit m) fun g =>
    { g with p := { g.p with z := decide (g.a &&& m = 0), n := m.getLsbD 7, v := m.getLsbD 6 } } := fun _ => rfl

/-- Settles O26: each form makes the read accesses of its mode, and its operation acts as its rule says. -/
theorem logicAndBitTest : Obligations.LogicAndBitTest := by
  intro b w s hs
  refine ⟨readForms_act hs opAnd_acts ?_, readForms_act hs opOra_acts ?_, readForms_act hs opEor_acts ?_,
    readForms_act hs opBit_acts ?_⟩
  · exact ⟨.izx b, .zp b, .imm b, .abs w, .izy b, .zpx b, .absy w, .absx w⟩
  · exact ⟨.izx b, .zp b, .imm b, .abs w, .izy b, .zpx b, .absy w, .absx w⟩
  · exact ⟨.izx b, .zp b, .imm b, .abs w, .izy b, .zpx b, .absy w, .absx w⟩
  · exact ⟨.zp b, .abs w⟩

/-- The flags a comparison of `r` with `m` leaves (R611). -/
def comparedFlags (p : Flags) (r m : Byte) : Flags :=
  { p with c := decide (m.toNat ≤ r.toNat), z := decide (r = m), n := (r - m).getLsbD 7 }

theorem opCmp_acts (m : Byte) : ActsAs (opCmp m) fun g => { g with p := comparedFlags g.p g.a m } := fun _ => rfl
theorem opCpx_acts (m : Byte) : ActsAs (opCpx m) fun g => { g with p := comparedFlags g.p g.x m } := fun _ => rfl
theorem opCpy_acts (m : Byte) : ActsAs (opCpy m) fun g => { g with p := comparedFlags g.p g.y m } := fun _ => rfl

/-- Settles O27: each form makes the read accesses of its mode, and its operation compares its register. -/
theorem comparisons : Obligations.Comparisons := by
  intro b w s hs
  refine ⟨readForms_act hs opCmp_acts ?_, readForms_act hs opCpx_acts ?_, readForms_act hs opCpy_acts ?_⟩
  · exact ⟨.izx b, .zp b, .imm b, .abs w, .izy b, .zpx b, .absy w, .absx w⟩
  · exact ⟨.imm b, .zp b, .abs w⟩
  · exact ⟨.imm b, .zp b, .abs w⟩

/-! ## Counts, shifts and rotates (R615, R616, R621 to R624) -/

theorem opInc_acts (v : Byte) : ActsAs (opInc v) fun g => { g with p := withNZ g.p (v + 1) } := fun _ => rfl
theorem opDec_acts (v : Byte) : ActsAs (opDec v) fun g => { g with p := withNZ g.p (v - 1) } := fun _ => rfl

/-- A byte moved left by one, with `n` added at bit 0 (R621, R623). -/
def movedLeft (v : Byte) (n : Nat) : Byte := BitVec.ofNat 8 (2 * v.toNat + n)

/-- A byte moved right by one, with `n` added at bit 7 (R622, R624). -/
def movedRight (v : Byte) (n : Nat) : Byte := BitVec.ofNat 8 (v.toNat / 2 + 128 * n)

theorem bitOf_setWidth_toNat (c : Bool) : ((bitOf c).setWidth 8).toNat = flagNat c := by cases c <;> decide

theorem shiftLeft_eq (v : Byte) (c : Bool) : shiftLeft v c = movedLeft v (flagNat c) := by
  have hc := flagNat_lt c
  have hv : v.toNat <<< 1 % 2 ^ 8 = (v.toNat % 128) <<< 1 := by
    rw [Nat.shiftLeft_eq, Nat.shiftLeft_eq]
    omega
  apply BitVec.eq_of_toNat_eq
  rw [shiftLeft, movedLeft, BitVec.toNat_or, BitVec.toNat_shiftLeft, bitOf_setWidth_toNat, BitVec.toNat_ofNat, hv,
    ← Nat.shiftLeft_add_eq_or_of_lt hc, Nat.shiftLeft_eq]
  omega

theorem shiftRight_eq (v : Byte) (c : Bool) : shiftRight v c = movedRight v (flagNat c) := by
  have hv := v.isLt
  have hc := flagNat_lt c
  have hhalf : v.toNat >>> 1 = v.toNat / 2 := Nat.shiftRight_eq_div_pow _ 1
  have hbit : flagNat c <<< 7 % 2 ^ 8 = flagNat c <<< 7 := by
    rw [Nat.shiftLeft_eq]
    omega
  apply BitVec.eq_of_toNat_eq
  rw [shiftRight, movedRight, BitVec.toNat_or, BitVec.toNat_ushiftRight, BitVec.toNat_shiftLeft, bitOf_setWidth_toNat,
    BitVec.toNat_ofNat, hhalf, hbit, Nat.or_comm, ← Nat.shiftLeft_add_eq_or_of_lt (by omega), Nat.shiftLeft_eq]
  omega

theorem newInc_yields : YieldsAs newInc fun v _ => v + 1 := fun _ _ => rfl
theorem newDec_yields : YieldsAs newDec fun v _ => v - 1 := fun _ _ => rfl
theorem newAsl_yields : YieldsAs newAsl fun v _ => movedLeft v 0 := fun v _ => shiftLeft_eq v false
theorem newLsr_yields : YieldsAs newLsr fun v _ => movedRight v 0 := fun v _ => shiftRight_eq v false
theorem newRol_yields : YieldsAs newRol fun v g => movedLeft v (flagNat g.p.c) := fun v c => shiftLeft_eq v c.p.c
theorem newRor_yields : YieldsAs newRor fun v g => movedRight v (flagNat g.p.c) := fun v c => shiftRight_eq v c.p.c

/-- A shift writes the flags from the bit shifted out and the new byte (R621 to R624). -/
theorem setCNZ_acts {new : Byte → Cpu → Byte} {f : Byte → Regs → Byte} (hnew : YieldsAs new f) (v : Byte)
    (carry : Bool) : ActsAs (fun c => c.mapP (·.setCNZ carry (new v c))) fun g =>
      { g with p := withCNZ g.p carry (f v g) } := by
  intro c
  have hregs : (c.mapP (·.setCNZ carry (new v c))).regs = { c.regs with p := withCNZ c.p carry (new v c) } := rfl
  rw [hregs, hnew]
  rfl

theorem opAsl_acts (v : Byte) : ActsAs (opAsl v) fun g => { g with p := withCNZ g.p (v.getLsbD 7) (movedLeft v 0) } :=
  setCNZ_acts newAsl_yields v _
theorem opLsr_acts (v : Byte) : ActsAs (opLsr v) fun g => { g with p := withCNZ g.p (v.getLsbD 0) (movedRight v 0) } :=
  setCNZ_acts newLsr_yields v _
theorem opRol_acts (v : Byte) : ActsAs (opRol v) fun g =>
    { g with p := withCNZ g.p (v.getLsbD 7) (movedLeft v (flagNat g.p.c)) } := setCNZ_acts newRol_yields v _
theorem opRor_acts (v : Byte) : ActsAs (opRor v) fun g =>
    { g with p := withCNZ g.p (v.getLsbD 0) (movedRight v (flagNat g.p.c)) } := setCNZ_acts newRor_yields v _

/-- An accumulator form writes the flags of its operation on A, and the new byte to A (R411). -/
theorem onA_acts {new : Byte → Cpu → Byte} {op : Byte → Cpu → Cpu} {f : Byte → Regs → Byte} {g : Byte → Regs → Regs}
    (hnew : YieldsAs new f) (hop : ∀ v, ActsAs (op v) (g v)) :
    ActsAs (onA new op) fun r => { g r.a r with a := f r.a r } := by
  intro c
  have hregs : (onA new op c).regs = { (op c.a c).regs with a := new c.a c } := rfl
  rw [hregs, hnew, hop]
  rfl

/-- Settles O28: each memory form makes the rmw accesses of its mode with its new byte, and the accumulator forms
do to A what the memory forms do to the byte read. -/
theorem readModifyWriteInstructions : Obligations.ReadModifyWriteInstructions := by
  refine ⟨fun b w s hs => ?_, fun s hs => ?_⟩
  · refine ⟨rmwForms_act hs newInc_yields opInc_acts ?_, rmwForms_act hs newDec_yields opDec_acts ?_,
      rmwForms_act hs newAsl_yields opAsl_acts ?_, rmwForms_act hs newLsr_yields opLsr_acts ?_,
      rmwForms_act hs newRol_yields opRol_acts ?_, rmwForms_act hs newRor_yields opRor_acts ?_⟩
    all_goals exact ⟨.zp b, .abs w, .zpx b, .absx w⟩
  · simp only [List.forall_mem_cons, List.not_mem_nil, false_imp_iff, implies_true, and_true]
    exact ⟨implied_acts hs rfl rfl (onA_acts newAsl_yields opAsl_acts),
      implied_acts hs rfl rfl (onA_acts newLsr_yields opLsr_acts),
      implied_acts hs rfl rfl (onA_acts newRol_yields opRol_acts),
      implied_acts hs rfl rfl (onA_acts newRor_yields opRor_acts)⟩

/-! ## Decimal digits (R603, R606) -/

/-- A byte written as two nibbles has them as its digits. -/
theorem digits_ofNat (h l : Nat) (hl : l < 16) : lowDigit (BitVec.ofNat 8 (h * 16 + l)) = l ∧
    highDigit (BitVec.ofNat 8 (h * 16 + l)) = h % 16 := by
  unfold lowDigit highDigit
  rw [BitVec.toNat_ofNat]
  omega

/-- A digit sum with its correction (R603). -/
def correctedSum (n : Nat) : Nat := if 9 < n then n + 6 else n

/-- A digit difference with its correction (R606). -/
def correctedDifference (n : Int) : Int := if n < 0 then n - 6 else n

theorem correctedSum_mod {n : Nat} (h : n ≤ 19) : correctedSum n % 16 = n % 10 := by
  unfold correctedSum
  split <;> omega

theorem correctedSum_carries {n : Nat} (h : n ≤ 19) : 15 < correctedSum n ↔ 10 ≤ n := by
  unfold correctedSum
  split <;> omega

theorem correctedDifference_mod {n : Int} (h : -10 ≤ n) (h' : n ≤ 9) : correctedDifference n % 16 = n % 10 := by
  unfold correctedDifference
  split <;> omega

section Digits
variable {a m : Byte} (c : Bool) (hal : lowDigit a ≤ 9) (hah : highDigit a ≤ 9) (hml : lowDigit m ≤ 9)
  (hmh : highDigit m ≤ 9)

include hal hml in
/-- The high digits are added with the carry of the low ones. -/
theorem decAddHigh_digits : decAddHigh a m c =
    highDigit a + highDigit m + (lowDigit a + lowDigit m + flagNat c) / 10 := by
  have hc := flagNat_lt c
  have hcarry := correctedSum_carries (n := lowDigit a + lowDigit m + flagNat c) (by omega)
  have hhigh : decAddHigh a m c =
      highDigit a + highDigit m + if 15 < correctedSum (lowDigit a + lowDigit m + flagNat c) then 1 else 0 := rfl
  rw [hhigh]
  split <;> omega

include hal hah hml hmh

/-- `dec_add` gives the digit sums modulo 10, and C is the carry of the high one. -/
theorem decAdd_digits :
    let high := highDigit a + highDigit m + (lowDigit a + lowDigit m + flagNat c) / 10
    lowDigit (decAdd a m c).r = (lowDigit a + lowDigit m + flagNat c) % 10 ∧
      highDigit (decAdd a m c).r = high % 10 ∧ ((decAdd a m c).c = true ↔ 10 ≤ high) := by
  intro high
  have hc := flagNat_lt c
  have hhigh : high ≤ 19 := by omega
  have hresult : (decAdd a m c).r = BitVec.ofNat 8 (correctedSum (decAddHigh a m c) * 16 + decAddLow a m c % 16) := rfl
  have hcarry : (decAdd a m c).c = decide (15 < correctedSum (decAddHigh a m c)) := rfl
  obtain ⟨hlowDigit, hhighDigit⟩ := digits_ofNat (correctedSum (decAddHigh a m c)) (decAddLow a m c % 16)
    (Nat.mod_lt _ (by decide))
  rw [hresult, hcarry, hlowDigit, hhighDigit, decAddHigh_digits c hal hml, decide_eq_true_iff]
  exact ⟨correctedSum_mod (by omega), correctedSum_mod hhigh, correctedSum_carries hhigh⟩

/-- `dec_sub` gives the digit differences modulo 10, the high one with the borrow of the low one. -/
theorem decSub_digits :
    let low : Int := (lowDigit a : Int) - lowDigit m - (1 - flagNat c)
    let high : Int := (highDigit a : Int) - highDigit m + low / 10
    (lowDigit (decSub a m c) : Int) = low % 10 ∧ (highDigit (decSub a m c) : Int) = high % 10 := by
  intro low high
  have hc := flagNat_lt c
  have hborrow :
      (if low < 0 then (highDigit a : Int) - highDigit m - 1 else (highDigit a : Int) - highDigit m) = high := by
    split <;> omega
  have hsub : decSub a m c = BitVec.ofNat 8
      ((correctedDifference high % 16).toNat * 16 + (correctedDifference low % 16).toNat) := by
    rw [← hborrow]
    rfl
  rw [hsub, correctedDifference_mod (by omega) (by omega), correctedDifference_mod (by omega) (by omega)]
  obtain ⟨hlowDigit, hhighDigit⟩ := digits_ofNat (high % 10).toNat (low % 10).toNat (by omega)
  omega

end Digits

/-- Settles O29: the digits are those of the sum and of the difference modulo 100, the low ones carrying into the high
ones. -/
theorem decimalFunctionsOnDigits : Obligations.DecimalFunctionsOnDigits := by
  refine ⟨fun a m c hal hah hml hmh => ?_, decimalMode_false⟩
  have hc := flagNat_lt c
  obtain ⟨hsumLow, hsumHigh, hcarry⟩ := decAdd_digits c hal hah hml hmh
  obtain ⟨hdiffLow, hdiffHigh⟩ := decSub_digits c hal hah hml hmh
  dsimp only
  rw [hcarry]
  omega

end Sys2Proof.Machine
end

section
/-! PROOFS. Jumps, subroutines, BRK, RTI, flag instructions and NOP (file 43), with the NOPs of file 44. -/

namespace Sys2Proof.Machine

/-! ## Flag instructions (R720 to R726) -/

theorem opClc_acts : ActsAs opClc fun g => { g with p := { g.p with c := false } } := fun _ => rfl
theorem opSec_acts : ActsAs opSec fun g => { g with p := { g.p with c := true } } := fun _ => rfl
theorem opCli_acts : ActsAs opCli fun g => { g with p := { g.p with i := false } } := fun _ => rfl
theorem opSei_acts : ActsAs opSei fun g => { g with p := { g.p with i := true } } := fun _ => rfl
theorem opClv_acts : ActsAs opClv fun g => { g with p := { g.p with v := false } } := fun _ => rfl
theorem opCld_acts : ActsAs opCld fun g => { g with p := { g.p with d := false } } := fun _ => rfl
theorem opSed_acts : ActsAs opSed fun g => { g with p := { g.p with d := true } } := fun _ => rfl

/-- Settles O20: each is an implied instruction whose operation writes its flag, and CLI and SEI are the inhibiting
ones. -/
theorem flagInstructions : Obligations.FlagInstructions := by
  intro s hs
  simp only [List.forall_mem_cons, List.not_mem_nil, false_imp_iff, implies_true, and_true]
  exact ⟨implied_acts hs rfl rfl opClc_acts, implied_acts hs rfl rfl opSec_acts,
    implied_completes hs rfl (fun _ => rfl) rfl fun _ hc => opCli_acts.of_regs hc,
    implied_completes hs rfl (fun _ => rfl) rfl fun _ hc => opSei_acts.of_regs hc,
    implied_acts hs rfl rfl opClv_acts, implied_acts hs rfl rfl opCld_acts, implied_acts hs rfl rfl opSed_acts⟩

/-! ## NOPs (R730, R815) -/

theorem id_acts : ActsAs id id := fun _ => rfl
theorem opNop_acts (v : Byte) : ActsAs (opNop v) id := fun _ => rfl

/-- Settles O32: each NOP is implied, or of the read class, with an operation that leaves every register. -/
theorem nopsOnlyMakeTheirAccesses : Obligations.NopsOnlyMakeTheirAccesses := by
  intro b w s hs
  refine ⟨?_, readForms_act hs opNop_acts ?_⟩
  · have hnop (i : Instr) (hp : programOf i = implied id) (hops : i.operandBytes = []) :
        ∃ t, exec i s = .next t ∧ ImpliedEnds false s s.cpu.regs t := implied_acts hs hp hops id_acts
    simp only [List.forall_mem_cons, List.not_mem_nil, false_imp_iff, implies_true, and_true]
    exact ⟨hnop _ rfl rfl, hnop _ rfl rfl, hnop _ rfl rfl, hnop _ rfl rfl, hnop _ rfl rfl, hnop _ rfl rfl,
      hnop _ rfl rfl⟩
  · exact ⟨.zp b, .abs w, .zpx b, .absx w, .zpx b, .absx w, .zp b, .zpx b, .absx w, .zp b, .zpx b, .absx w, .imm b,
      .imm b, .imm b, .imm b, .zpx b, .absx w, .imm b, .zpx b, .absx w⟩

/-! ## What a chain of accesses can have changed -/

/-- Between `s` and `M` there were bus accesses that stored to the given cells only: the wiring and the record are
kept, and so is every other cell. -/
structure Accessed (cells : List (Option (Nat × Nat))) (s M : State) : Prop where
  kept : StateKept s M
  diagnostics : M.diagnostics = s.diagnostics
  cells : KeepsCells cells s M

theorem Accessed.refl (s : State) : Accessed [] s s := ⟨StateKept.refl s, rfl, fun _ _ _ => rfl⟩

section Accessed
variable {cells : List (Option (Nat × Nat))} {s M t : State} (h : Accessed cells s M)
include h

theorem Accessed.ready (hs : s.ready = true) : M.ready = true := h.kept.ready hs

theorem Accessed.read (a : Word) : Accessed cells s (busRead a M).2 where
  kept := h.kept.trans (busRead_kept a M)
  diagnostics := (busRead_diagnostics a M).trans h.diagnostics
  cells dev idx hother := (cell_devices (busRead_devices a M) dev idx).trans (h.cells dev idx hother)

theorem Accessed.push (hs : s.ready = true) (sp v : Byte) :
    Accessed (cells ++ [M.awaitCpu.storesTo (stackAddr sp)]) s (pushAt sp v M) where
  kept := h.kept.trans (busWrite_kept _ v M)
  diagnostics := (busWrite_diagnostics _ v M).trans h.diagnostics
  cells dev idx hother := by
    rw [List.mem_append, List.mem_singleton, not_or] at hother
    obtain ⟨hbefore, hnow⟩ := hother
    have hcell : (pushAt sp v M).cell dev idx = _ := busWrite_cell _ v M dev idx (h.ready hs)
    rw [hcell, if_neg (Ne.symm hnow)]
    exact h.cells dev idx hbefore

theorem Accessed.pushFrame (hs : s.ready = true) (pc : Word) (sp status : Byte) :
    Accessed (cells ++ frameCells pc sp M) s (pushFrame pc sp status M) := by
  have hframe := ((h.push hs sp (hiByte pc)).push hs (sp - 1) (loByte pc)).push hs (sp - 2) status
  rw [List.append_assoc, List.append_assoc] at hframe
  exact hframe

theorem Accessed.readVector (vec : Word) : Accessed cells s (readVector vec M).2 := (h.read vec).read (vec + 1)

/-- The frame of an instruction that ends with the machine `M`. -/
theorem Accessed.frame {inh : Bool} {g : Regs} (he : Ends inh M g t) :
    KeepsCells cells s t ∧ SameWiring s t ∧ t.diagnostics = s.diagnostics :=
  ⟨fun dev idx hother => (cell_devices he.devices dev idx).trans (h.cells dev idx hother),
    (h.kept.trans he.kept).sameWiring, he.diagnostics.trans h.diagnostics⟩

end Accessed

/-! ## Programs that run their cycles to the end -/

@[simp] theorem Cpu.setS_regs (c : Cpu) (v : Byte) : (c.setS v).regs = { c.regs with s := v } := rfl
@[simp] theorem Cpu.setP_regs (c : Cpu) (p : Flags) : (c.setP p).regs = { c.regs with p := p } := rfl

theorem runCycles_pull (k : Byte → Cpu → Cpu) (cs : List Cycle) (M : State) (c : Cpu) :
    runCycles (pullCycle k :: cs) (M.setCpu c) =
      runCycles cs ((pullAt c.s M).2.setCpu (k (pullAt c.s M).1 c).nextCycle) :=
  runCycles_read _ _ cs M c

/-! S moves by one at each push and pull (R102). -/

theorem sub_one_sub_one (b : Byte) : b - 1 - 1 = b - 2 := by bv_omega
theorem sub_two_sub_one (b : Byte) : b - 2 - 1 = b - 3 := by bv_omega
theorem add_one_add_one (b : Byte) : b + 1 + 1 = b + 2 := by bv_omega
theorem add_two_add_one (b : Byte) : b + 2 + 1 = b + 3 := by bv_omega

/-- `t` is the machine `M` with a CPU in it whose registers are `g`. -/
def ComesTo (M : State) (g : Regs) (t : State) : Prop := ∃ c : Cpu, c.regs = g ∧ t = M.setCpu c

/-- An instruction whose cycles come to the machine `M` and the registers `g` answers the end of R403 over them. -/
theorem plain_exec_ends {i : Instr} {ops : List (Byte → Cpu → Cpu)} {body : List Cycle} {f : State → State}
    {s M : State} {g : Regs} (hp : programOf i = plain ops body f)
    (h : ComesTo M g (f (runCycles body (s.setCpu (latchAll ops i.operandBytes s.cpu))))) (hM : M.ready = true) :
    ∃ t, exec i s = .next t ∧ Ends false M g t := by
  obtain ⟨c, rfl, h⟩ := h
  obtain ⟨t, ht, he⟩ := exec_ends ((afterCycles_plain hp s).trans h) hM
  rw [hp] at he
  exact ⟨t, ht, he⟩

/-! ## The vector routine: BRK (R714, R1030) -/

/-- T6 and T7: PC is the vector, and I is set. -/
theorem vectorCycles_as (vec : Word) (M : State) (c : Cpu) :
    ComesTo (readVector vec M).2 { c.regs with p := { c.regs.p with i := true }, pc := (readVector vec M).1 }
      (runCycles (vectorCycles vec) (M.setCpu c)) := by
  unfold vectorCycles
  rw [runCycles_read, runCycles_read, runCycles_nil]
  exact ⟨_, rfl, rfl⟩

/-- T3 to T7, which BRK, IRQ and NMI share: the frame is pushed, then the vector is read. -/
theorem takeException_as (vec : Word) (status : Flags → Byte) (M : State) (c : Cpu) :
    let v := readVector vec (pushFrame c.pc c.s (status c.p) M)
    ComesTo v.2 { c.regs with s := c.s - 3, p := { c.p with i := true }, pc := v.1 }
      (runCycles (takeException vec status) (M.setCpu c)) := by
  obtain ⟨d, hd, hpushes⟩ : ∃ d : Cpu, d.regs = { c.regs with s := c.s - 3 } ∧
      runCycles (takeException vec status) (M.setCpu c) =
        runCycles (vectorCycles vec) ((pushFrame c.pc c.s (status c.p) M).setCpu d) := by
    unfold takeException pushFrame
    simp only [List.cons_append, List.nil_append, runCycles_push]
    rw [← sub_one_sub_one, ← sub_two_sub_one, ← sub_one_sub_one]
    exact ⟨_, rfl, rfl⟩
  rw [hpushes]
  have hvector := vectorCycles_as vec (pushFrame c.pc c.s (status c.p) M) d
  rw [hd] at hvector
  exact hvector

/-- Settles O15: BRK is the vector routine with the byte software pushes, and its only stores are the frame's. -/
theorem breakEntersTheVectorRoutine : Obligations.BreakEntersTheVectorRoutine := by
  intro b s hs
  rw [← pushedBySoftware_eq_or]
  have hframe := (Accessed.refl s).pushFrame hs s.cpu.pc s.cpu.s s.cpu.p.pushedBySoftware
  have hvector := hframe.readVector vectorIrq
  obtain ⟨t, ht, he⟩ := plain_exec_ends (i := .brk b) rfl
    (takeException_as vectorIrq Flags.pushedBySoftware s (latchLo b s.cpu)) (hvector.ready hs)
  exact ⟨t, ht, he, hvector.frame he⟩

/-! ## RTI (R715, R1032) -/

/-- Settles O16: the status is the first byte pulled, and PC the two after it. -/
theorem returnFromInterrupt : Obligations.ReturnFromInterrupt := by
  intro s hs p l h
  have hreads : ReadsOnly s h.2 := ((firstPull_readsOnly s).trans (busRead_readsOnly _ _)).trans (busRead_readsOnly _ _)
  have hready : h.2.ready = true := busRead_ready (busRead_ready (firstPull_ready hs))
  have hcycles : ComesTo h.2 { s.cpu.regs with s := s.cpu.s + 3, p := Flags.ofByte p.1, pc := joinBytes h.1 l.1 }
      (runCycles (dummyReadPc :: returnFromException) (s.setCpu s.cpu)) := by
    unfold returnFromException dummyReadPc dummyRead pullDummy
    rw [runCycles_read, runCycles_pull, runCycles_pull, runCycles_pull, runCycles_pull, runCycles_nil]
    subst h l p
    rw [← add_two_add_one, ← add_one_add_one]
    exact ⟨_, by simp [Cpu.incS], rfl⟩
  obtain ⟨t, ht, he⟩ := plain_exec_ends (i := .rti) rfl hcycles hready
  exact ⟨t, ht, he, he.readsOnly hreads⟩

/-! ## Jumps (R451, R710, R711) -/

theorem jmpAbs_completes (w : Word) {s : State} (hs : s.ready = true) :
    ∃ t, exec (.jmpAbs w) s = .next t ∧ Ends false s { s.cpu.regs with pc := w } t ∧ ReadsOnly s t := by
  have hcycles : ComesTo s { s.cpu.regs with pc := w }
      ((runCycles [] (s.setCpu (latchHigh (hiByte w) (latchLo (loByte w) s.cpu)))).mapCpu jumpToOperand) :=
    ⟨_, congrArg (fun pc => { s.cpu.regs with pc := pc }) (join_hi_lo w), rfl⟩
  obtain ⟨t, ht, he⟩ := plain_exec_ends (i := .jmpAbs w) rfl hcycles hs
  exact ⟨t, ht, he, he.readsOnly (ReadsOnly.refl s)⟩

theorem jmpInd_completes (w : Word) {s : State} (hs : s.ready = true) :
    let l := busRead w s
    let h := busRead (samePage w 1) l.2
    ∃ t, exec (.jmpInd w) s = .next t ∧ Ends false h.2 { s.cpu.regs with pc := joinBytes h.1 l.1 } t
      ∧ ReadsOnly s t := by
  intro l h
  have hcycles : ComesTo h.2 { s.cpu.regs with pc := joinBytes h.1 l.1 }
      (runCycles indirectCycles (s.setCpu (latchHi (hiByte w) (latchLo (loByte w) s.cpu)))) := by
    unfold indirectCycles
    rw [runCycles_read, runCycles_read, runCycles_nil]
    have hea : (latchHi (hiByte w) (latchLo (loByte w) s.cpu)).ea = w := join_hi_lo w
    rw [hea]
    exact ⟨_, by simp [latchHi, latchLo, samePage, h, l], rfl⟩
  obtain ⟨t, ht, he⟩ := plain_exec_ends (i := .jmpInd w) rfl hcycles (busRead_ready (busRead_ready hs))
  exact ⟨t, ht, he, he.readsOnly ((busRead_readsOnly w s).trans (busRead_readsOnly _ _))⟩

/-! ## Subroutines (R712, R713) -/

theorem jsr_completes (w : Word) {s : State} (hs : s.ready = true) :
    let s1 := (pullAt s.cpu.s s).2
    let s2 := pushAt s.cpu.s (hiByte s.cpu.pc) s1
    let s3 := pushAt (s.cpu.s - 1) (loByte s.cpu.pc) s2
    let h := busRead s.cpu.pc s3
    ∃ t, exec (.jsrAbs w) s = .next t
      ∧ Ends false h.2 { s.cpu.regs with s := s.cpu.s - 2, pc := joinBytes h.1 (loByte w) } t
      ∧ KeepsCells [s1.awaitCpu.storesTo (stackAddr s.cpu.s), s2.awaitCpu.storesTo (stackAddr (s.cpu.s - 1))] s t
      ∧ SameWiring s t ∧ t.diagnostics = s.diagnostics := by
  intro s1 s2 s3 h
  have haccessed := ((((Accessed.refl s).read (stackAddr s.cpu.s)).push hs s.cpu.s (hiByte s.cpu.pc)).push hs
    (s.cpu.s - 1) (loByte s.cpu.pc)).read s.cpu.pc
  have hcycles : ComesTo h.2 { s.cpu.regs with s := s.cpu.s - 2, pc := joinBytes h.1 (loByte w) }
      (runCycles jsrCycles (s.setCpu (latchLo (loByte w) s.cpu))) := by
    unfold jsrCycles dummyRead
    rw [runCycles_read, runCycles_push, runCycles_push, runCycles_read, runCycles_nil]
    subst h s3 s2 s1
    rw [← sub_one_sub_one]
    exact ⟨_, by simp [Cpu.decS, Cpu.stackTop, latchLo, pullAt], rfl⟩
  obtain ⟨t, ht, he⟩ := plain_exec_ends (i := .jsrAbs w) rfl hcycles (haccessed.ready hs)
  exact ⟨t, ht, he, haccessed.frame he⟩

theorem rts_completes {s : State} (hs : s.ready = true) :
    let l := firstPull s
    let h := pullAt (s.cpu.s + 2) l.2
    let e := busRead (joinBytes h.1 l.1) h.2
    ∃ t, exec .rts s = .next t
      ∧ Ends false e.2 { s.cpu.regs with s := s.cpu.s + 2, pc := joinBytes h.1 l.1 + 1 } t ∧ ReadsOnly s t := by
  intro l h e
  have hreads : ReadsOnly s e.2 := ((firstPull_readsOnly s).trans (busRead_readsOnly _ _)).trans (busRead_readsOnly _ _)
  have hready : e.2.ready = true := busRead_ready (busRead_ready (firstPull_ready hs))
  have hcycles : ComesTo e.2 { s.cpu.regs with s := s.cpu.s + 2, pc := joinBytes h.1 l.1 + 1 }
      (runCycles rtsCycles (s.setCpu s.cpu)) := by
    unfold rtsCycles dummyReadPc dummyRead pullDummy
    rw [runCycles_read, runCycles_pull, runCycles_pull, runCycles_pull, runCycles_read, runCycles_nil]
    subst e h l
    rw [← add_one_add_one]
    exact ⟨_, by simp [Cpu.incS, Cpu.incPc, firstPull], rfl⟩
  obtain ⟨t, ht, he⟩ := plain_exec_ends (i := .rts) rfl hcycles hready
  exact ⟨t, ht, he, he.readsOnly hreads⟩

/-- Settles O19: each runs its cycles to the end, and JSR's stores are its two pushes. -/
theorem jumpsCallsAndReturns : Obligations.JumpsCallsAndReturns :=
  ⟨fun w _ hs => ⟨jmpAbs_completes w hs, jmpInd_completes w hs⟩, fun w _ hs => jsr_completes w hs,
    fun _ hs => rts_completes hs⟩

end Sys2Proof.Machine
end

section
/-! PROOFS. The undocumented opcodes (file 44): the combined operations, the immediate combinations and the fallback
class. -/

namespace Sys2Proof.Machine

/-! ## Combined read-modify-write operations (R801 to R804, R807, R808) -/

/-- A result in A, with N and Z of it and the given carry. -/
def resultRegs (g : Regs) (carry : Bool) (r : Byte) : Regs := { g with a := r, p := withCNZ g.p carry r }

/-- A combined operation writes to A what `combine` makes of A and the new byte. -/
theorem combineA_acts {new : Byte → Cpu → Byte} {f : Byte → Regs → Byte} (hnew : YieldsAs new f)
    (combine : Byte → Byte → Byte) (carry : Bool) (v : Byte) :
    ActsAs (fun c => (c.setA (combine c.a (new v c))).mapP (·.setCNZ carry (combine c.a (new v c)))) fun g =>
      resultRegs g carry (combine g.a (f v g)) :=
  fun c => congrArg (fun r => resultRegs c.regs carry (combine c.a r)) (hnew v c)

theorem opSlo_acts (v : Byte) : ActsAs (opSlo v) fun g => resultRegs g (v.getLsbD 7) (g.a ||| movedLeft v 0) :=
  combineA_acts newAsl_yields (· ||| ·) _ v
theorem opRla_acts (v : Byte) : ActsAs (opRla v) fun g =>
    resultRegs g (v.getLsbD 7) (g.a &&& movedLeft v (flagNat g.p.c)) := combineA_acts newRol_yields (· &&& ·) _ v
theorem opSre_acts (v : Byte) : ActsAs (opSre v) fun g => resultRegs g (v.getLsbD 0) (g.a ^^^ movedRight v 0) :=
  combineA_acts newLsr_yields (· ^^^ ·) _ v

/-- What an addition of `m` and the carry `c` to A leaves, in exact integers (R600, R601). -/
def addedRegs (g : Regs) (m : Byte) (c : Bool) : Regs :=
  sumRegs g (BitVec.ofNat 8 (g.a.toNat + m.toNat + flagNat c)) (decide (255 < g.a.toNat + m.toNat + flagNat c))
    (decide (g.a.toInt + m.toInt + flagNat c < -128 ∨ 127 < g.a.toInt + m.toInt + flagNat c))

/-- RRA adds with the carry its rotation leaves, the bit rotated out (R804). -/
theorem opRra_acts (v : Byte) : ActsAs (opRra v) fun g =>
    addedRegs g (movedRight v (flagNat g.p.c)) (v.getLsbD 0) := by
  intro c
  unfold opRra
  rw [newRor_yields]
  exact opAdc_acts _ _

/-- Settles O30: each form makes the rmw accesses of its mode with the new byte of its memory operation, and its
operation combines A with that byte. -/
theorem combinedReadModifyWrite : Obligations.CombinedReadModifyWrite := by
  intro b w s hs
  refine ⟨rmwForms_act hs newAsl_yields opSlo_acts ?_, rmwForms_act hs newRol_yields opRla_acts ?_,
    rmwForms_act hs newLsr_yields opSre_acts ?_, rmwForms_act hs newRor_yields opRra_acts ?_,
    rmwForms_act hs newDec_yields (fun v => opCmp_acts (v - 1)) ?_,
    rmwForms_act hs newInc_yields (fun v => opSbc_acts (v + 1)) ?_⟩
  case refine_4 | refine_6 =>
    exact ⟨.decimally (.izx b), .decimally (.zp b), .decimally (.abs w), .decimally (.izy b), .decimally (.zpx b),
      .decimally (.absy w), .decimally (.absx w)⟩
  all_goals exact ⟨.izx b, .zp b, .abs w, .izy b, .zpx b, .absy w, .absx w⟩

/-! ## Immediate combinations (R809 to R812) -/

theorem opAnc_acts (m : Byte) : ActsAs (opAnc m) fun g => resultRegs g ((g.a &&& m).getLsbD 7) (g.a &&& m) :=
  fun _ => rfl
theorem opAlr_acts (m : Byte) : ActsAs (opAlr m) fun g =>
    resultRegs g ((g.a &&& m).getLsbD 0) (movedRight (g.a &&& m) 0) :=
  fun c => congrArg (resultRegs c.regs ((c.a &&& m).getLsbD 0)) (shiftRight_eq (c.a &&& m) false)

/-- What ARR leaves when its rotation gives `r` (R811). -/
def arrRegs (g : Regs) (r : Byte) : Regs :=
  { g with a := r, p := { withCNZ g.p (r.getLsbD 6) r with v := xor (r.getLsbD 6) (r.getLsbD 5) } }
theorem opArr_acts (m : Byte) : ActsAs (opArr m) fun g => arrRegs g (movedRight (g.a &&& m) (flagNat g.p.c)) :=
  fun c => congrArg (arrRegs c.regs) (shiftRight_eq (c.a &&& m) c.p.c)
theorem opSbx_acts (m : Byte) : ActsAs (opSbx m) fun g =>
    { g with x := (g.a &&& g.x) - m,
             p := withCNZ g.p (decide (m.toNat ≤ (g.a &&& g.x).toNat)) ((g.a &&& g.x) - m) } := fun _ => rfl

/-- An immediate instruction writes the registers as its operation acts on them with the operand byte (R412). -/
theorem imm_acts {i : Instr} {b : Byte} {s : State} {op : Byte → Cpu → Cpu} {f : Byte → Regs → Regs}
    (hs : s.ready = true) (hop : ∀ v, ActsAs (op v) (f v)) (hp : programOf i = immRead op)
    (hmode : i.mode = .imm) (hops : i.operandBytes = [b]) :
    ∃ t, exec i s = .next t ∧ ReadEnds i s (fun _ => f b s.cpu.regs) t := by
  have hvalue : (readPhase i.mode (operandWord i) s).1 = b := by
    rw [hmode, operandWord, hops]
    exact loByte_join 0 b
  have hform : ReadForm op i.mode i.operandBytes (programOf i) := by
    rw [hp, hmode, hops]
    exact .imm b
  obtain ⟨t, ht, hends, hreads⟩ := read_acts hs hop hform.readsAs rfl hform.inhibit
  rw [hvalue] at hends
  exact ⟨t, ht, hends, hreads⟩

/-- Settles O31: each reads its operand byte, and its operation acts on the registers as its rule says. -/
theorem immediateCombinations : Obligations.ImmediateCombinations := by
  intro b s hs
  simp only [List.forall_mem_cons, List.not_mem_nil, false_imp_iff, implies_true, and_true]
  exact ⟨⟨imm_acts hs opAnc_acts rfl rfl rfl, imm_acts hs opAnc_acts rfl rfl rfl⟩,
    imm_acts hs opAlr_acts rfl rfl rfl, imm_acts hs opArr_acts rfl rfl rfl, imm_acts hs opSbx_acts rfl rfl rfl⟩

/-! ## The fallback class (R820 to R827) -/

/-- The fallback instructions run the fallback NOP of their opcode byte, length and cycle column. -/
theorem programOf_fallback {i : Instr} (h : i.status = .fallback) :
    programOf i = fallback i.opcode (encode i).length i.baseCycles := by
  cases i
  case jam02 | jam12 | jam22 | jam32 | jam42 | jam52 | jam62 | jam72 | aneImm | jam92 | shaIzy | tasAbsy
      | shyAbsx | shxAbsy | shaAbsy | lxaImm | jamB2 | jamD2 | jamF2 => rfl
  all_goals nomatch h

/-- Latches that are all temporaries leave the registers. -/
theorem latchAll_regs {ls : List (Byte → Cpu → Cpu)} (h : ∀ l ∈ ls, ∀ b c, (l b c).regs = c.regs) (bs : List Byte)
    (c : Cpu) : (latchAll ls bs c).regs = c.regs := by
  induction ls generalizing bs c with
  | nil => rfl
  | cons l ls ih =>
    obtain ⟨hl, hls⟩ := List.forall_mem_cons.mp h
    cases bs with
    | nil => rfl
    | cons b bs => exact (ih hls bs (l b c)).trans (hl b c)

theorem discardLatches_regs (length : Nat) (bs : List Byte) (c : Cpu) :
    (latchAll (discardLatches length) bs c).regs = c.regs := by
  refine latchAll_regs (fun l hl b c => ?_) bs c
  have hall : ∀ l ∈ [latchLo, latchHigh], (l b c).regs = c.regs := by
    simp only [List.forall_mem_cons, List.not_mem_nil, false_imp_iff, implies_true, and_true]
    exact ⟨FirstLatch.lo.regs_eq b c, SecondLatch.high.regs_eq b c⟩
  exact hall l (List.mem_of_mem_take hl)

theorem dummyReads_readsOnly (n : Nat) (a : Word) (s : State) : ReadsOnly s (dummyReads n a s) := by
  induction n generalizing s with
  | zero => exact ReadsOnly.refl s
  | succ n ih => exact (busRead_readsOnly a s).trans (ih _)

theorem dummyReads_kept (n : Nat) (a : Word) (s : State) : StateKept s (dummyReads n a s) := by
  induction n generalizing s with
  | zero => exact StateKept.refl s
  | succ n ih => exact (busRead_kept a s).trans (ih _)

/-- Dummy reads of PC leave the registers. -/
theorem runCycles_dummyReads (n : Nat) (M : State) (c : Cpu) :
    ComesTo (dummyReads n c.pc M) c.regs (runCycles (List.replicate n dummyReadPc) (M.setCpu c)) := by
  induction n generalizing M c with
  | zero => exact ⟨c, rfl, rfl⟩
  | succ n ih =>
    rw [List.replicate_succ, dummyReadPc, dummyRead, runCycles_read]
    exact ih _ c.nextCycle

/-- A record changes nothing else. -/
theorem StateKept.logDiagnostic {s t : State} (h : StateKept s t) (d : Diagnostic) : StateKept s (t.logDiagnostic d) :=
  ⟨h.cpuBus, h.video, h.irq, h.fits, h.canonical⟩

/-- The cycles and the record of the fallback NOP: its operand bytes are dropped (R820). -/
theorem fallback_comesTo (opcode : Byte) (length n : Nat) (bs : List Byte) (s : State) :
    ComesTo ((dummyReads n s.cpu.pc s).logDiagnostic { pc := s.cpu.pc - BitVec.ofNat 16 length, opcode := opcode })
      s.cpu.regs (logFallback opcode length
        (runCycles (List.replicate n dummyReadPc) (s.setCpu (latchAll (discardLatches length) bs s.cpu)))) := by
  have hlatch := discardLatches_regs length bs s.cpu
  generalize latchAll (discardLatches length) bs s.cpu = c at hlatch
  have hpc : c.pc = s.cpu.pc := congrArg Regs.pc hlatch
  obtain ⟨d, hd, hreads⟩ := runCycles_dummyReads n s c
  have hdpc : d.pc = s.cpu.pc := (congrArg Regs.pc hd).trans hpc
  rw [hreads, hpc, ← hdpc]
  exact ⟨d, hd.trans hlatch, rfl⟩

/-- Settles O33: the program of a fallback opcode is dummy reads and the record, so the frame is that of reads. -/
theorem fallbackOpcodesAreLoggedNops : Obligations.FallbackOpcodesAreLoggedNops := by
  intro i s hs hfallback d r
  have hreads : ReadsOnly s r := dummyReads_readsOnly _ _ s
  have hkept : StateKept s (r.logDiagnostic d) := (dummyReads_kept _ _ s).logDiagnostic d
  obtain ⟨t, ht, he⟩ :=
    plain_exec_ends (programOf_fallback hfallback) (fallback_comesTo i.opcode _ _ i.operandBytes s) (hkept.ready hs)
  obtain ⟨hdevices, -, -, hdiag⟩ := hreads
  have hall := hkept.trans he.kept
  have htdevices : t.devices = s.devices := he.devices.trans hdevices
  exact ⟨t, ht, he, htdevices, memoryByte_congr htdevices hall.cpuBus.reads, hall.sameWiring,
    he.diagnostics.trans (congrArg (d :: ·) hdiag)⟩

end Sys2Proof.Machine
end

section
/-! PROOFS. Exceptions (file 60): the interrupt lines (R1002, R1010, R1011), the poll at the end of an instruction
(R1020, R1021), the reset and interrupt sequences (R1030, R1031, R1040), and that a ready machine always steps
(R1000, R1001, R1050). -/

namespace Sys2Proof.Machine

/-! ## Lists of sources (R1002) -/

/-- A rising list is one in which each source is below all that follow it. -/
theorem rising_iff_pairwise (l : List Nat) : rising l = true ↔ l.Pairwise (· < ·) := by
  rw [← List.isChain_iff_pairwise]
  induction l with
  | nil => simp [rising]
  | cons a l ih =>
    cases l with
    | nil => simp [rising]
    | cons b l => rw [List.isChain_cons_cons, ← ih, rising, Bool.and_eq_true, decide_eq_true_eq]

theorem rising_insertSource (a : Nat) {l : List Nat} (h : rising l = true) : rising (insertSource a l) = true := by
  rw [rising_iff_pairwise] at h ⊢
  induction l with
  | nil => exact List.pairwise_singleton _ a
  | cons k ks ih =>
    obtain ⟨hk, hks⟩ := List.pairwise_cons.mp h
    rw [insertSource]
    split_ifs with hlt heq
    · exact List.pairwise_cons.mpr ⟨List.forall_mem_cons.mpr ⟨hlt, fun j hj => hlt.trans (hk j hj)⟩, h⟩
    · exact h
    · refine List.pairwise_cons.mpr ⟨fun j hj => ?_, ih hks⟩
      obtain rfl | hj := (mem_insertSource a j ks).mp hj
      · omega
      · exact hk j hj

theorem rising_removeSource (a : Nat) {l : List Nat} (h : rising l = true) : rising (removeSource a l) = true := by
  rw [rising_iff_pairwise] at h ⊢
  exact h.filter _

/-- In a rising list an asserted source is found before any larger one, so raising it again changes nothing. -/
theorem insertSource_of_mem {a : Nat} {l : List Nat} (h : rising l = true) (ha : a ∈ l) : insertSource a l = l := by
  rw [rising_iff_pairwise] at h
  induction l with
  | nil => exact absurd ha List.not_mem_nil
  | cons k ks ih =>
    obtain ⟨hk, hks⟩ := List.pairwise_cons.mp h
    rw [insertSource]
    obtain rfl | ha := List.mem_cons.mp ha
    · rw [if_neg (lt_irrefl a), if_pos rfl]
    · have hlt : k < a := hk a ha
      rw [if_neg (by omega), if_neg (by omega), ih hks ha]

theorem mem_removeSource (a k : Nat) (l : List Nat) : k ∈ removeSource a l ↔ k ≠ a ∧ k ∈ l := by
  simp [removeSource, and_comm]

theorem removeSource_of_not_mem {a : Nat} {l : List Nat} (h : a ∉ l) : removeSource a l = l :=
  List.filter_eq_self.mpr fun _ hk => decide_eq_true fun heq => h (heq ▸ hk)

/-! ## The lines (R1010, R1011) -/

theorem lineLevel_iff (l : List Nat) : lineLevel l = true ↔ ∃ j, j ∈ l := by
  cases l <;> simp [lineLevel]

theorem lineLevel_insertSource (a : Nat) (l : List Nat) : lineLevel (insertSource a l) = true :=
  (lineLevel_iff _).mpr ⟨a, (mem_insertSource a a l).mpr (.inl rfl)⟩

/-- Settles O17: both lines are lists of sources, and the laws are those of inserting and removing one. -/
theorem interruptLines : Obligations.InterruptLines :=
  ⟨fun l a k => ⟨mem_insertSource a k l.sources, mem_removeSource a k l.sources, lineLevel_iff l.sources,
      fun h => ⟨rising_insertSource a h, rising_removeSource a h⟩,
      fun h ha => congrArg IrqLine.mk (insertSource_of_mem h ha),
      fun ha => congrArg IrqLine.mk (removeSource_of_not_mem ha)⟩,
    fun l a => ⟨rfl, lineLevel_insertSource a l.sources, rfl, rfl, rfl⟩⟩

/-! ## The poll (R1020, R1021) -/

section Poll
variable {s : State} {i : Bool}

theorem pollPhase_of_edge (h : s.video.nmi.edgePending = true) : s.pollPhase false i = .interrupt .nmi := by
  rw [State.pollPhase, if_neg Bool.false_ne_true, if_pos h]

/-- Without an edge the IRQ line is looked at, behind the I flag. -/
theorem pollPhase_of_no_edge (h : s.video.nmi.edgePending = false) :
    s.pollPhase false i = if (s.irq.isAsserted && !i) = true then .interrupt .irq else .fetch := by
  rw [State.pollPhase, if_neg Bool.false_ne_true, h, if_neg Bool.false_ne_true]

end Poll

theorem irq_isAsserted_iff (l : IrqLine) : l.isAsserted = true ↔ l.sources ≠ [] := by
  simp [IrqLine.isAsserted, lineLevel]

theorem endInstruction_phase (inhibit : Bool) (s : State) :
    (endInstruction inhibit s).cpu.phase = s.pollPhase inhibit s.cpu.p.i := by
  obtain ⟨-, -, hphase, -⟩ := endInstruction_ends inhibit s s.cpu
  exact hphase

theorem endInstruction_nmi (inhibit : Bool) (s : State) :
    (endInstruction inhibit s).video.nmi = pollNmi inhibit s.video.nmi := by
  obtain ⟨-, -, -, -, -, -, -, -, -, -, hnmi, -⟩ := endInstruction_ends inhibit s s.cpu
  exact hnmi

/-- Settles O14: the end of an instruction is that of R403, whose phase is looked at line by line. -/
theorem pollAtTheEndOfAnInstruction : Obligations.PollAtTheEndOfAnInstruction := by
  intro inhibit s
  simp only [endInstruction_phase, endInstruction_nmi]
  refine ⟨endInstruction_ends inhibit s s.cpu, fun hedge => ⟨pollPhase_of_edge hedge, rfl⟩,
    fun hedge hirq hi => ⟨?_, (endInstruction_kept false s s.cpu).irq⟩, fun hedge hquiet => ?_, rfl, rfl⟩
  · have hline : s.irq.isAsserted = true := (irq_isAsserted_iff s.irq).mpr hirq
    rw [pollPhase_of_no_edge hedge, hline, hi]
    rfl
  · rw [pollPhase_of_no_edge hedge, if_neg]
    rw [Bool.and_eq_true, irq_isAsserted_iff]
    rintro ⟨hirq, hi⟩
    obtain hnone | hmasked := hquiet
    · exact hirq hnone
    · rw [hmasked] at hi
      cases hi

/-! ## A sequence from its first cycle (R1030, R1040) -/

/-- Both sequences begin with two dummy reads of PC. -/
theorem runCycles_twoDummyReads (cs : List Cycle) (s : State) : runCycles (dummyReadPc :: dummyReadPc :: cs) s =
    runCycles cs ((dummyReads 2 s.cpu.pc s).setCpu s.cpu.nextCycle.nextCycle) :=
  (runCycles_read Cpu.pc _ _ s s.cpu).trans (runCycles_read Cpu.pc _ _ _ s.cpu.nextCycle)

/-- A sequence whose cycles come to a ready machine answers that machine, its end made. -/
theorem finishSequence_first {cycles : List Cycle} {finish : Cpu → Cpu} {s M : State} {g : Regs}
    (hone : s.cpu.cycle = 1) (h : ComesTo M g (runCycles cycles s)) (hM : M.ready = true) :
    finishSequence cycles (·.mapCpu finish) s = .next ((runCycles cycles s).mapCpu finish) := by
  obtain ⟨c, -, hc⟩ := h
  unfold finishSequence
  rw [hone, Nat.sub_self, List.drop_zero, hc]
  exact outcome_ready hM

/-! ## The reset sequence (R1040) -/

theorem runCycles_resetStack (cs : List Cycle) (M : State) (c : Cpu) : runCycles (resetStackCycle :: cs) (M.setCpu c) =
    runCycles cs ((pullAt c.s M).2.setCpu c.decS.nextCycle) :=
  runCycles_read _ _ cs M c

/-- Two dummy reads, three reads of the stack with S moving down, and the vector. -/
theorem resetCycles_as (s : State) :
    let s2 := dummyReads 2 s.cpu.pc s
    let s5 := (pullAt (s.cpu.s - 2) (pullAt (s.cpu.s - 1) (pullAt s.cpu.s s2).2).2).2
    let v := readVector 0xFFFC s5
    ComesTo v.2 { s.cpu.regs with s := s.cpu.s - 3, p := { s.cpu.p with i := true }, pc := v.1 }
      (runCycles resetCycles s) := by
  intro s2 s5 v
  obtain ⟨d, hstack, hd⟩ : ∃ d : Cpu, runCycles resetCycles s = runCycles (vectorCycles vectorReset) (s5.setCpu d) ∧
      d.regs = { s.cpu.regs with s := s.cpu.s - 3 } := by
    unfold resetCycles
    simp only [List.cons_append, List.nil_append, runCycles_twoDummyReads, runCycles_resetStack]
    subst s5
    rw [← sub_two_sub_one, ← sub_one_sub_one]
    exact ⟨_, rfl, by simp [Cpu.decS]⟩
  have hvector := vectorCycles_as vectorReset s5 d
  rw [hd, ← hstack] at hvector
  exact hvector

theorem readVector_readsOnly (vec : Word) (s : State) : ReadsOnly s (readVector vec s).2 :=
  (busRead_readsOnly vec s).trans (busRead_readsOnly _ _)

theorem readVector_ready (vec : Word) {s : State} (h : s.ready = true) : (readVector vec s).2.ready = true :=
  busRead_ready (busRead_ready h)

/-- Settles O12: the two resets start the sequence by definition, and its seven accesses are reads. -/
theorem resetSequence : Obligations.ResetSequence := by
  refine ⟨fun s => ⟨rfl, rfl, rfl, rfl, rfl, rfl, rfl⟩, ?_⟩
  intro s hs hphase hone s2 s5 v
  have hreads : ReadsOnly s v.2 := ((((dummyReads_readsOnly 2 _ s).trans (busRead_readsOnly _ _)).trans
    (busRead_readsOnly _ _)).trans (busRead_readsOnly _ _)).trans (readVector_readsOnly _ _)
  have hready : v.2.ready = true := readVector_ready _
    (busRead_ready (busRead_ready (busRead_ready ((dummyReads_kept 2 _ s).ready hs))))
  have hcycles := resetCycles_as s
  have hstep := (step_reset (ready_not_faulted hs) hphase).trans (finishSequence_first hone hcycles hready)
  obtain ⟨c, hregs, hc⟩ := hcycles
  rw [hc] at hstep
  exact ⟨_, hstep, hregs, rfl, rfl, rfl, rfl, rfl, rfl, hreads.setCpu _⟩

/-! ## The interrupt sequences (R1030, R1031) -/

/-- The byte an IRQ or NMI sequence pushes, as R105 writes it. -/
theorem pushedByHardware_eq_or (p : Flags) : p.pushedByHardware = (p.byte true true &&& 0xCF) ||| 0x20 := by
  obtain ⟨c, z, i, d, v, n⟩ := p
  revert c z i d v n
  decide

/-- After the two dummy reads both sequences are the vector routine. -/
theorem interruptCycles_as (k : Interrupt) (s : State) :
    let v := readVector k.vector
      (pushFrame s.cpu.pc s.cpu.s s.cpu.p.pushedByHardware (dummyReads 2 s.cpu.pc s))
    ComesTo v.2 { s.cpu.regs with s := s.cpu.s - 3, p := { s.cpu.p with i := true }, pc := v.1 }
      (runCycles (interruptCycles k) s) := by
  rw [show interruptCycles k = dummyReadPc :: dummyReadPc :: takeException k.vector Flags.pushedByHardware from rfl,
    runCycles_twoDummyReads]
  exact takeException_as k.vector Flags.pushedByHardware _ s.cpu.nextCycle.nextCycle

/-- A cycle that leaves the interrupt delay (R108) as it is. -/
def Cycle.KeepsInhibit (c : Cycle) : Prop := ∀ s, (c s).1.cpu.irqInhibit = s.cpu.irqInhibit

theorem readCycle_keepsInhibit (a : Cpu → Word) {k : Byte → Cpu → Cpu}
    (h : ∀ b c, (k b c).irqInhibit = c.irqInhibit) : Cycle.KeepsInhibit (readCycle a k) := by
  intro s
  obtain ⟨hcpu, -⟩ := cpuRead_same (a s.cpu) s
  exact (h _ _).trans (congrArg Cpu.irqInhibit hcpu)

theorem writeCycle_keepsInhibit (a : Cpu → Word) (v : Cpu → Byte) {k : Cpu → Cpu}
    (h : ∀ c, (k c).irqInhibit = c.irqInhibit) : Cycle.KeepsInhibit (writeCycle a v k) := by
  intro s
  obtain ⟨hcpu, -⟩ := cpuWrite_same (a s.cpu) (v s.cpu) s
  exact (h _).trans (congrArg Cpu.irqInhibit hcpu)

theorem runCycles_irqInhibit {cs : List Cycle} (h : ∀ c ∈ cs, Cycle.KeepsInhibit c) (s : State) :
    (runCycles cs s).cpu.irqInhibit = s.cpu.irqInhibit := by
  induction cs generalizing s with
  | nil => rfl
  | cons c cs ih =>
    obtain ⟨hc, hcs⟩ := List.forall_mem_cons.mp h
    have hone : (runCycle c s.awaitCpu).1.cpu.irqInhibit = s.cpu.irqInhibit :=
      (hc s.awaitCpu).trans (congrArg Cpu.irqInhibit (awaitCpu_cpu s))
    simp only [runCycles]
    split
    · exact hone
    · exact (ih hcs _).trans hone

theorem interruptCycles_keepInhibit (k : Interrupt) : ∀ c ∈ interruptCycles k, Cycle.KeepsInhibit c := by
  have hdummy : Cycle.KeepsInhibit dummyReadPc := readCycle_keepsInhibit _ fun _ _ => rfl
  have hpush (v : Cpu → Byte) : Cycle.KeepsInhibit (pushCycle v) := writeCycle_keepsInhibit _ _ fun _ => rfl
  simp only [interruptCycles, takeException, vectorCycles, List.cons_append, List.nil_append, List.forall_mem_cons]
  exact ⟨hdummy, hdummy, hpush _, hpush _, hpush _, readCycle_keepsInhibit _ fun _ _ => rfl,
    readCycle_keepsInhibit _ fun _ _ => rfl, nofun⟩

theorem accessed_dummyReads (n : Nat) (a : Word) (s : State) : Accessed [] s (dummyReads n a s) := by
  obtain ⟨hdevices, -, -, hdiag⟩ := dummyReads_readsOnly n a s
  exact ⟨dummyReads_kept n a s, hdiag, fun dev idx _ => cell_devices hdevices dev idx⟩

/-- Settles O13: the cycles are two dummy reads and the vector routine, whose only stores are the frame's. -/
theorem interruptSequence : Obligations.InterruptSequence := by
  intro k s hs hphase hone vec status s2 v
  have hvec : vec = k.vector := by cases k <;> rfl
  have hstatus : status = s.cpu.p.pushedByHardware := (pushedByHardware_eq_or s.cpu.p).symm
  have haccessed : Accessed (frameCells s.cpu.pc s.cpu.s s2) s v.2 :=
    ((accessed_dummyReads 2 s.cpu.pc s).pushFrame hs s.cpu.pc s.cpu.s status).readVector vec
  have hcycles : ComesTo v.2 { s.cpu.regs with s := s.cpu.s - 3, p := { s.cpu.p with i := true }, pc := v.1 }
      (runCycles (interruptCycles k) s) := by
    subst v
    rw [hvec, hstatus]
    exact interruptCycles_as k s
  have hstep := (step_interrupt (ready_not_faulted hs) hphase).trans
    (finishSequence_first hone hcycles (haccessed.ready hs))
  have hinhibit := runCycles_irqInhibit (interruptCycles_keepInhibit k) s
  obtain ⟨c, hregs, hc⟩ := hcycles
  rw [hc] at hstep hinhibit
  exact ⟨_, hstep, hregs, rfl, rfl, hinhibit, rfl, rfl, rfl, rfl, haccessed.cells, haccessed.kept.sameWiring,
    haccessed.diagnostics⟩

/-! ## Every step of a ready machine (R1000, R1001, R1050) -/

/-- After an instruction the CPU is between two sequences, whatever the poll chose. -/
theorem endInstruction_atBoundary (inhibit : Bool) (s : State) :
    (endInstruction inhibit s).cpu.atBoundary = true := by
  have hends : Ends inhibit s s.cpu.regs (endInstruction inhibit s) := endInstruction_ends inhibit s s.cpu
  obtain ⟨-, -, -, hcycle, -⟩ := hends
  unfold Cpu.atBoundary
  rw [hcycle, endInstruction_phase]
  obtain h | h | h := pollPhase_cases s inhibit s.cpu.p.i <;> rw [h] <;> rfl

theorem conclude_atBoundary (p : Program) (s : State) : (p.conclude s).cpu.atBoundary = true :=
  endInstruction_atBoundary _ _

theorem step_execute {s : State} (hs : s.faulted = false) (h : s.cpu.phase = .execute) :
    step s = finishInstruction s := by
  unfold step
  rw [hs, if_neg Bool.false_ne_true, h]

theorem step_decimalExtra {s : State} (hs : s.faulted = false) (h : s.cpu.phase = .decimalExtra) :
    step s = outcome (endInstruction false (runCycles [dummyReadPc] s)) := by
  unfold step
  rw [hs, if_neg Bool.false_ne_true, h]

/-- A step, whatever the phase and the cycle it starts in, comes to the end of a sequence and keeps a machine safe on
the way there; it answers that machine unless an access has faulted. -/
theorem step_eq_outcome {s : State} (hs : s.faulted = false) :
    ∃ t, step s = outcome t ∧ SafeKept s t ∧ t.cpu.atBoundary = true := by
  cases hphase : s.cpu.phase with
  | fetch =>
    exact ⟨_, step_fetch hs hphase, ((fetchInstruction_safeKept s).trans
      (rest_safeKept (programAt_keepsSafe _) _)).trans (endInstruction_safeKept _ _), endInstruction_atBoundary _ _⟩
  | execute =>
    exact ⟨_, step_execute hs hphase, (resume_safeKept (programAt_keepsSafe _) _ s).trans (conclude_safeKept _ _),
      conclude_atBoundary _ _⟩
  | decimalExtra =>
    exact ⟨_, step_decimalExtra hs hphase, (runCycles_safeKept (by simp) s).trans (endInstruction_safeKept _ _),
      endInstruction_atBoundary _ _⟩
  | interrupt k =>
    exact ⟨_, step_interrupt hs hphase, (runCycles_safeKept ((interruptCycles_keepSafe k).drop _) s).trans
      (endInterrupt_safeKept _), rfl⟩
  | reset =>
    exact ⟨_, step_reset hs hphase, (runCycles_safeKept (resetCycles_keepSafe.drop _) s).trans (endReset_safeKept _),
      rfl⟩

/-- Settles O7: what a step comes to is as ready as the machine it started from, so it is what the step answers. -/
theorem readyMachineAlwaysSteps : Obligations.ReadyMachineAlwaysSteps := by
  intro s hs
  obtain ⟨t, hstep, hsafe, hboundary⟩ := step_eq_outcome (ready_not_faulted hs)
  have ht : t.ready = true := hsafe.kept.ready hs
  exact ⟨t, hstep.trans (outcome_ready ht), ht, hboundary, hsafe.kept.sameWiring⟩

end Sys2Proof.Machine
end

section
/-! PROOFS. The scheduler (file 61): how often a divided receiver fires (R1101, R1120), and one pass of the two
receivers (R1110, R1111, R1130). -/

namespace Sys2Proof.Machine

/-! ## A receiver by itself (R1101) -/

/-- A receiver `k` ticks after its countdown stood at its divisor: one more tick fires exactly when that tick's number
is a multiple of the divisor. -/
theorem tick_after_ticks {r : Receiver} (hpos : 1 ≤ r.divisor) (k : Nat) :
    ({ r with countdown := r.divisor - k % r.divisor } : Receiver).tick =
      ({ r with countdown := r.divisor - (k + 1) % r.divisor }, decide (r.divisor ∣ k + 1)) := by
  have hlt : k % r.divisor < r.divisor := Nat.mod_lt _ hpos
  have hnext : (k + 1) % r.divisor = (k % r.divisor + 1) % r.divisor := (Nat.mod_add_mod k _ 1).symm
  unfold Receiver.tick
  obtain hlast | hbefore : k % r.divisor + 1 = r.divisor ∨ k % r.divisor + 1 < r.divisor := by omega
  · have hzero : (k + 1) % r.divisor = 0 := by rw [hnext, hlast, Nat.mod_self]
    rw [if_pos (by dsimp only; omega), hzero, decide_eq_true (Nat.dvd_of_mod_eq_zero hzero), Nat.sub_zero]
  · have hsucc : (k + 1) % r.divisor = k % r.divisor + 1 := hnext.trans (Nat.mod_eq_of_lt hbefore)
    have hrest : ¬ r.divisor ∣ k + 1 := by
      rw [Nat.dvd_iff_mod_eq_zero, hsucc]
      exact Nat.succ_ne_zero _
    rw [if_neg (by dsimp only; omega), hsucc, decide_eq_false hrest, Nat.sub_sub]

theorem iterate_tick {r : Receiver} (hpos : 1 ≤ r.divisor) (hfull : r.countdown = r.divisor) (k : Nat) :
    Nat.iterate (fun q : Receiver => q.tick.1) k r = { r with countdown := r.divisor - k % r.divisor } := by
  induction k with
  | zero => exact congrArg (Receiver.mk r.divisor · r.skip) (hfull.trans (by rw [Nat.zero_mod, Nat.sub_zero]))
  | succ k ih => rw [Function.iterate_succ_apply', ih, tick_after_ticks hpos]

theorem activate_of_no_skip {r : Receiver} (h : r.skip = 0) : r.activate = (r, true) := if_pos h

theorem activate_of_skip {r : Receiver} (h : 0 < r.skip) :
    r.activate = ({ r with skip := r.skip - 1 }, false) := if_neg (Nat.ne_of_gt h)

/-- Settles O57: the ticks that fire are those whose number is a multiple of the divisor, and of these there are
`n / divisor` up to `n`. -/
theorem receiversFireEveryDivisorTicks : Obligations.ReceiversFireEveryDivisorTicks := by
  refine ⟨fun r n hpos hfull => ?_, fun r => ⟨activate_of_no_skip, activate_of_skip, fun _ => rfl⟩⟩
  simp only [iterate_tick hpos hfull, tick_after_ticks hpos, and_self, and_true]
  exact Nat.card_multiples n r.divisor

/-! ## One master tick at a receiver (R1101, R1120) -/

theorem deliver_of_wait {r : Receiver} (h : 1 < r.countdown) :
    r.deliver = ({ r with countdown := r.countdown - 1 }, false, false) := by
  have htick : r.tick = ({ r with countdown := r.countdown - 1 }, false) := if_neg (Nat.not_le_of_gt h)
  rw [Receiver.deliver, htick, if_neg Bool.false_ne_true]

theorem deliver_of_fire {r : Receiver} (h : r.countdown ≤ 1) :
    r.deliver = ({ r with countdown := r.divisor, skip := r.skip - 1 }, true, decide (r.skip = 0)) := by
  have htick : r.tick = ({ r with countdown := r.divisor }, true) := if_pos h
  rw [Receiver.deliver, htick, if_pos rfl]
  obtain hskip | hskip := Nat.eq_zero_or_pos r.skip
  · simp [activate_of_no_skip, hskip]
  · simp [activate_of_skip (r := { r with countdown := r.divisor }) hskip, Nat.ne_of_gt hskip]

/-! ## The ticks up to a dot (R1110) -/

/-- The scheduler after `k` ticks at which no receiver fires. -/
def Sched.wait (c : Sched) (k : Nat) : Sched :=
  { c with
    masterTick := c.masterTick + k
    cpu := { c.cpu with countdown := c.cpu.countdown - k }
    ppu := { c.ppu with countdown := c.ppu.countdown - k } }

theorem schedTick_of_wait {c : Sched} (hp : 1 < c.ppu.countdown) (hc : 1 < c.cpu.countdown) :
    c.tick = (c.wait 1, false, false) := by
  rw [Sched.tick, deliver_of_wait hp, deliver_of_wait hc]
  rfl

theorem ticks_wait {s : State} (hs : s.ready = true) {k : Nat} (hp : k < s.sched.ppu.countdown)
    (hc : k < s.sched.cpu.countdown) : ticks k s = s.setSched (s.sched.wait k) := by
  induction k generalizing s with
  | zero => rfl
  | succ k ih =>
    have hsched : s.sched.tick = (s.sched.wait 1, false, false) := schedTick_of_wait (by omega) (by omega)
    have hone : tick s = s.setSched (s.sched.wait 1) := by
      rw [tick_of_wait (ready_not_faulted hs) (by rw [State.tickBeforeCpu, hsched]), State.tickBeforeCpu, hsched]
      rfl
    rw [ticks, hone, ih (s := s.setSched (s.sched.wait 1)) hs (Nat.lt_sub_of_add_lt hp) (Nat.lt_sub_of_add_lt hc)]
    simp [State.setSched, Sched.wait, Nat.sub_sub, Nat.add_assoc, Nat.add_comm 1 k]

/-- The machine after the PPU's next dot. -/
def State.runDot (s : State) : State := s.setVideo (ppuDot s.devices s.video)

theorem runDot_ready {s : State} (hs : s.ready = true) : s.runDot.ready = true :=
  StateKept.ready (s := s) ⟨BusKept.refl _ _, ppuDot_kept _ _, rfl, fun _ => rfl, id⟩ hs

/-- The PPU's receiver has just fired: it is at its divisor, four ticks from its next dot. -/
def Sched.DotDone (c : Sched) : Prop := c.ppu = Receiver.fresh Config.ppuDiv

/-- Three ticks later the PPU is due, and does its dot since no skip is pending. -/
theorem Sched.DotDone.deliver {c : Sched} (hp : c.DotDone) : (c.wait 3).ppu.deliver = (c.ppu, true, true) := by
  rw [Sched.wait, hp]
  rfl

/-- Four ticks bring the next dot, with the CPU's cycle after it when the CPU is due at the same tick. -/
theorem ticks_dot {s : State} (hs : s.ready = true) (hp : s.sched.DotDone) (hc : 4 ≤ s.sched.cpu.countdown) :
    ticks 4 s = if (s.sched.wait 3).tick.2.2 then cpuCycle (s.runDot.setSched (s.sched.wait 3).tick.1)
      else s.runDot.setSched (s.sched.wait 3).tick.1 := by
  have hfires : (s.sched.wait 3).tick.2.1 = true := by rw [Sched.tick, hp.deliver]
  have hwait : ticks 3 s = s.setSched (s.sched.wait 3) := ticks_wait hs (by rw [hp]; decide) hc
  have hbefore : (s.setSched (s.sched.wait 3)).tickBeforeCpu =
      (s.runDot.setSched (s.sched.wait 3).tick.1, (s.sched.wait 3).tick.2.2) := by
    rw [State.tickBeforeCpu, State.setSched_sched, if_pos hfires]
    rfl
  have hrun : (s.setSched (s.sched.wait 3)).faulted = false := ready_not_faulted hs
  rw [ticks_add 3 1, hwait, ticks, ticks, tick, hbefore, hrun, if_neg Bool.false_ne_true]

/-! ## One pass (R1111, R1130) -/

/-- The scheduler at a dot at which the CPU is not due. -/
def Sched.afterDot (c : Sched) : Sched :=
  { c with
    masterTick := c.masterTick + 4
    cpu := { c.cpu with countdown := c.cpu.countdown - 4 } }

theorem schedTick_at_dot {c : Sched} (hp : c.DotDone) (hc : 4 < c.cpu.countdown) :
    (c.wait 3).tick = (c.afterDot, true, false) := by
  have hcpu := deliver_of_wait (r := (c.wait 3).cpu) (show 1 < c.cpu.countdown - 3 by omega)
  rw [Sched.tick, hcpu, hp.deliver]
  rfl

/-- The scheduler at a dot at which the CPU is activated too. -/
def Sched.afterPass (c : Sched) : Sched :=
  { c with
    masterTick := c.masterTick + 4
    cpuCycles := c.cpuCycles + 1
    cpu := { c.cpu with countdown := c.cpu.divisor, skip := c.cpu.skip - 1 } }

theorem schedTick_at_activation {c : Sched} (hp : c.DotDone) (hc : c.cpu.countdown = 4) :
    (c.wait 3).tick = (c.afterPass, true, decide (c.cpu.skip = 0)) := by
  have hcpu := deliver_of_fire (r := (c.wait 3).cpu) (show c.cpu.countdown - 3 ≤ 1 by omega)
  rw [Sched.tick, hcpu, hp.deliver]
  rfl

theorem ticks_dot_alone {s : State} (hs : s.ready = true) (hp : s.sched.DotDone) (hc : 4 < s.sched.cpu.countdown) :
    ticks 4 s = s.runDot.setSched s.sched.afterDot := by
  rw [ticks_dot hs hp hc.le, schedTick_at_dot hp hc, if_neg Bool.false_ne_true]

theorem ticks_dot_and_activation {s : State} (hs : s.ready = true) (hp : s.sched.DotDone)
    (hc : s.sched.cpu.countdown = 4) :
    ticks 4 s = if s.sched.cpu.skip = 0 then cpuCycle (s.runDot.setSched s.sched.afterPass)
      else s.runDot.setSched s.sched.afterPass := by
  rw [ticks_dot hs hp hc.ge, schedTick_at_activation hp hc]
  simp only [decide_eq_true_eq]

/-- Twelve ticks from receivers at their divisors: two dots alone, then one with the CPU's activation. -/
theorem stepWhole_eq {s : State} (hs : s.ready = true) (hp : s.sched.DotDone) (hc : s.sched.cpu.countdown = 12) :
    stepWhole s =
      if s.sched.cpu.skip = 0 then cpuCycle (s.runDot.runDot.runDot.setSched s.sched.afterDot.afterDot.afterPass)
      else s.runDot.runDot.runDot.setSched s.sched.afterDot.afterDot.afterPass := by
  have hfirst : ticks 4 s = s.runDot.setSched s.sched.afterDot := ticks_dot_alone hs hp (by omega)
  have hsecond : ticks 4 (s.runDot.setSched s.sched.afterDot) =
      s.runDot.runDot.setSched s.sched.afterDot.afterDot :=
    ticks_dot_alone (runDot_ready hs) hp (show 4 < s.sched.cpu.countdown - 4 by omega)
  have hthird := ticks_dot_and_activation (s := s.runDot.runDot.setSched s.sched.afterDot.afterDot)
    (runDot_ready (runDot_ready hs)) hp (show s.sched.cpu.countdown - 4 - 4 = 4 by omega)
  rw [stepWhole, ticks_add 4 8, ticks_add 4 4, hfirst, hsecond, hthird]
  rfl

/-- Settles O58: the pass, with the CPU's receiver back at its divisor and the three dots gathered into one change of
the PPU's side. -/
theorem onePassIsThreeDotsThenOneCycle : Obligations.OnePassIsThreeDotsThenOneCycle := by
  intro s hs hwf hcpu hppu dots sched
  obtain ⟨-, -, hdc, hdp, hskip⟩ := (sched_wf_iff s.sched).mp hwf
  have hp : s.sched.DotDone := receiver_eq_fresh hdp hppu hskip
  have hend : s.runDot.runDot.runDot.setSched s.sched.afterDot.afterDot.afterPass =
      dots.setSched (sched (s.sched.cpu.skip - 1)) := by
    have hfull : s.sched.cpu.countdown = s.sched.cpu.divisor := hcpu.trans hdc.symm
    have hsched : s.sched.afterDot.afterDot.afterPass = sched (s.sched.cpu.skip - 1) := by
      simp only [Sched.afterPass, Sched.afterDot, sched, hfull]
    rw [hsched]
    rfl
  rw [stepWhole_eq hs hp hcpu, hend]
  refine ⟨fun h0 => ?_, fun hpos => if_neg (Nat.ne_of_gt hpos)⟩
  rw [if_pos h0, h0]

end Sys2Proof.Machine
end

section
/-! PROOFS. The PPU registers (file 62): what each access but the PPUSTATUS read returns and changes (R1200,
R1210, R1211, R1213 to R1219). -/

namespace Sys2Proof.Machine

/-! ## The latch (R1200, R1219) -/

/-- Settles O46: no write-only register has a read, and the latch is set last. -/
theorem writeOnlyRegistersAndTheIoLatch : Obligations.WriteOnlyRegistersAndTheIoLatch := by
  intro devs vd val
  refine ⟨fun r hr => ?_, rfl, fun _ _ => rfl, fun _ _ => rfl⟩
  simp only [List.mem_cons, List.not_mem_nil, or_false] at hr
  rcases hr with rfl | rfl | rfl | rfl | rfl <;> rfl

/-! ## Bit fields of the scroll registers -/

theorem getLsbD_copyBits (m src dst : BitVec 15) (i : Nat) :
    (copyBits m src dst).getLsbD i = if m.getLsbD i then src.getLsbD i else dst.getLsbD i := by
  by_cases hi : i < 15
  · rw [copyBits, BitVec.getLsbD_or, BitVec.getLsbD_and, BitVec.getLsbD_and, BitVec.getLsbD_not, decide_eq_true hi]
    cases m.getLsbD i <;> simp
  · have hge : 15 ≤ i := Nat.le_of_not_lt hi
    simp [BitVec.getLsbD_of_ge _ i hge]

theorem extractLsb'_copyBits_of_set {m : BitVec 15} {k n : Nat} (h : ∀ i < n, m.getLsbD (k + i) = true)
    (src dst : BitVec 15) : (copyBits m src dst).extractLsb' k n = src.extractLsb' k n := by
  refine BitVec.eq_of_getLsbD_eq fun i hi => ?_
  rw [BitVec.getLsbD_extractLsb', BitVec.getLsbD_extractLsb', getLsbD_copyBits, if_pos (h i hi)]

theorem extractLsb'_copyBits_of_clear {m : BitVec 15} {k n : Nat} (h : ∀ i < n, m.getLsbD (k + i) = false)
    (src dst : BitVec 15) : (copyBits m src dst).extractLsb' k n = dst.extractLsb' k n := by
  refine BitVec.eq_of_getLsbD_eq fun i hi => ?_
  rw [BitVec.getLsbD_extractLsb', BitVec.getLsbD_extractLsb', getLsbD_copyBits, h i hi, if_neg Bool.false_ne_true]

theorem extractLsb'_shiftLeft_self {w k n : Nat} (h : k + n ≤ w) (x : BitVec w) :
    (x <<< k).extractLsb' k n = x.extractLsb' 0 n := by
  refine BitVec.eq_of_getLsbD_eq fun i hi => ?_
  have hlt : k + i < w := by omega
  rw [BitVec.getLsbD_extractLsb', BitVec.getLsbD_extractLsb', BitVec.getLsbD_shiftLeft]
  simp [hlt]

theorem extractLsb'_ushiftRight {w : Nat} (j n : Nat) (x : BitVec w) :
    (x >>> j).extractLsb' 0 n = x.extractLsb' j n := by
  refine BitVec.eq_of_getLsbD_eq fun i hi => ?_
  simp [hi]

/-- The low bits of a byte, put at bit `k` of a scroll register. -/
theorem extractLsb'_byte_shiftLeft {k n : Nat} (h : k + n ≤ 15) (v : Byte) :
    ((v.setWidth 15) <<< k).extractLsb' k n = v.extractLsb' 0 n := by
  rw [extractLsb'_shiftLeft_self h, BitVec.extractLsb'_setWidth_of_le (by omega)]

/-- The top five bits of a byte, the coarse part of a scroll position. -/
theorem extractLsb'_byte_ushiftRight (v : Byte) : ((v.setWidth 15) >>> 3).extractLsb' 0 5 = v.extractLsb' 3 5 := by
  rw [extractLsb'_ushiftRight, BitVec.extractLsb'_setWidth_of_le (by decide)]

/-! ## PPUCTRL and PPUMASK (R1210, R1211) -/

theorem landsOn_iff (p : Ppu) (l d : Nat) : p.landsOn l d = true ↔ p.scanline = l ∧ p.dot = d := by
  simp only [Ppu.landsOn, Bool.and_eq_true, beq_iff_eq]

theorem writeMask_of_landsOn {p : Ppu} (h : p.landsOn 261 338 = true) (v : Byte) : p.writeMask v = p := if_pos h

theorem writeMask_of_not_landsOn {p : Ppu} (h : ¬ p.landsOn 261 338 = true) (v : Byte) :
    p.writeMask v = { p with mask := v } := if_neg h

/-- Settles O41: the mask of the copy is 0x0C00, bits 11 and 10. -/
theorem controlAndMaskWrites : Obligations.ControlAndMaskWrites := by
  intro devs vd v p c m
  have hm : m = (devs, { vd with ppu := { p.writeMask v with ioLatch := v } }) := rfl
  refine ⟨⟨(p.writeCtrl v).t, ?_, ?_, ?_, rfl⟩, fun h => ?_, fun h => ?_⟩
  · exact (extractLsb'_copyBits_of_set (by decide) _ _).trans (extractLsb'_byte_shiftLeft (by decide) v)
  · exact extractLsb'_copyBits_of_clear (by decide) _ _
  · exact extractLsb'_copyBits_of_clear (by decide) _ _
  · rw [hm, writeMask_of_landsOn ((landsOn_iff p 261 338).mpr h)]
  · rw [hm, writeMask_of_not_landsOn (fun hl => h ((landsOn_iff p 261 338).mp hl))]

/-! ## PPUSCROLL and PPUADDR (R1216) -/

theorem writeScroll_first {p : Ppu} (h : p.w = false) (v : Byte) : p.writeScroll v =
    { p with t := copyBits 0x001F (v.setWidth 15 >>> 3) p.t, x := v.extractLsb' 0 3, w := true } := by
  rw [Ppu.writeScroll, h, if_neg Bool.false_ne_true]

theorem writeScroll_second {p : Ppu} (h : p.w = true) (v : Byte) : p.writeScroll v =
    { p with
      t := copyBits 0x7000 ((v.setWidth 15) <<< 12) (copyBits 0x03E0 ((v.setWidth 15 >>> 3) <<< 5) p.t)
      w := false } := if_pos h

theorem writeAddr_first {p : Ppu} (h : p.w = false) (v : Byte) : p.writeAddr v =
    { p with t := copyBits 0x7F00 (((v &&& 0x3F).setWidth 15) <<< 8) p.t, w := true } := by
  rw [Ppu.writeAddr, h, if_neg Bool.false_ne_true]

theorem writeAddr_second {p : Ppu} (h : p.w = true) (v : Byte) : p.writeAddr v =
    { p with
      t := copyBits 0x00FF (v.setWidth 15) p.t
      v := copyBits 0x00FF (v.setWidth 15) p.t
      w := false } := if_pos h

/-- The six address bits of the first PPUADDR write are those of its value. -/
theorem extractLsb'_and_low_six (v : Byte) : (v &&& 0x3F).extractLsb' 0 6 = v.extractLsb' 0 6 := by
  rw [BitVec.extractLsb'_and, show (0x3F : Byte).extractLsb' 0 6 = BitVec.allOnes 6 from rfl, BitVec.and_allOnes]

/-- Bit 14 comes from bit 6 of the masked value, which is 0. -/
theorem getLsbD_addr_high (v : Byte) (t : BitVec 15) :
    (copyBits 0x7F00 (((v &&& 0x3F).setWidth 15) <<< 8) t).getLsbD 14 = false := by
  rw [getLsbD_copyBits, if_pos (by decide)]
  simp

/-- Settles O42: by register and `w`, each field read off the copy that sets it or the copies that miss it. -/
theorem scrollAndAddressWrites : Obligations.ScrollAndAddressWrites := by
  intro devs vd val p s a after
  have hs : s = after (p.writeScroll val) := rfl
  have ha : a = after (p.writeAddr val) := rfl
  refine ⟨fun hw => ⟨?_, ?_⟩, fun hw => ⟨?_, ?_⟩⟩
  · refine ⟨_, hs.trans (congrArg after (writeScroll_first hw val)), ?_, ?_⟩
    · exact (extractLsb'_copyBits_of_set (by decide) _ _).trans (extractLsb'_byte_ushiftRight val)
    · exact extractLsb'_copyBits_of_clear (by decide) _ _
  · refine ⟨_, ha.trans (congrArg after (writeAddr_first hw val)), ?_, getLsbD_addr_high val p.t, ?_⟩
    · rw [extractLsb'_copyBits_of_set (by decide), extractLsb'_byte_shiftLeft (by decide), extractLsb'_and_low_six]
    · exact extractLsb'_copyBits_of_clear (by decide) _ _
  · refine ⟨_, hs.trans (congrArg after (writeScroll_second hw val)), ?_, ?_, ?_, ?_⟩
    · rw [extractLsb'_copyBits_of_set (by decide), extractLsb'_byte_shiftLeft (by decide)]
    · rw [extractLsb'_copyBits_of_clear (by decide), extractLsb'_copyBits_of_set (by decide),
        extractLsb'_shiftLeft_self (by decide), extractLsb'_byte_ushiftRight]
    · rw [extractLsb'_copyBits_of_clear (by decide), extractLsb'_copyBits_of_clear (by decide)]
    · rw [extractLsb'_copyBits_of_clear (by decide), extractLsb'_copyBits_of_clear (by decide)]
  · refine ⟨_, ha.trans (congrArg after (writeAddr_second hw val)), ?_, ?_⟩
    · rw [extractLsb'_copyBits_of_set (by decide), BitVec.extractLsb'_setWidth_of_le (by decide),
        BitVec.extractLsb'_eq_self]
    · exact extractLsb'_copyBits_of_clear (by decide) _ _

/-! ## PPUDATA (R1217) -/

theorem readData_low (devs : List Device) {vd : Video} (h : vd.ppu.dataAddr < 0x3F00) :
    readData devs vd = (vd.ppu.readBuffer, (ppuRead devs vd vd.ppu.dataAddr).2.mapPpu fun p =>
      ({ p with readBuffer := (ppuRead devs vd vd.ppu.dataAddr).1 } : Ppu).incrementV) := if_pos h

theorem readData_palette (devs : List Device) {vd : Video} (h : ¬ vd.ppu.dataAddr < 0x3F00) :
    readData devs vd = ((vd.ppu.ioLatch &&& 0xC0) ||| (vd.ppu.paletteAt vd.ppu.dataAddr).setWidth 8,
      (ppuRead devs vd (vd.ppu.dataAddr - 0x1000)).2.mapPpu fun p =>
        ({ p with readBuffer := (ppuRead devs vd (vd.ppu.dataAddr - 0x1000)).1 } : Ppu).incrementV) := if_neg h

theorem writeData_low (v : Byte) (devs : List Device) {vd : Video} (h : vd.ppu.dataAddr < 0x3F00) :
    writeData v devs vd = ((ppuWrite devs vd vd.ppu.dataAddr v).1,
      (ppuWrite devs vd vd.ppu.dataAddr v).2.mapPpu Ppu.incrementV) := if_pos h

theorem writeData_palette (v : Byte) (devs : List Device) {vd : Video} (h : ¬ vd.ppu.dataAddr < 0x3F00) :
    writeData v devs vd = (devs, vd.mapPpu fun p => (p.setPalette p.dataAddr v).incrementV) := if_neg h

/-- Settles O43: on both sides of the palette boundary the access, then `increment_v()`, then the latch. -/
theorem dataPortAccesses : Obligations.DataPortAccesses := by
  intro devs vd val p a active v' rd wr
  have hread : rd = ((readData devs vd).1, (readData devs vd).2.mapPpu fun q =>
    { q with ioLatch := (readData devs vd).1 }) := rfl
  have hwrite : wr = ((writeData val devs vd).1, (writeData val devs vd).2.mapPpu fun q =>
    { q with ioLatch := val }) := rfl
  refine ⟨fun h => ⟨?_, ?_⟩, fun h => ⟨?_, ?_⟩⟩
  · rw [hread, readData_low devs h]
    rfl
  · rw [hwrite, writeData_low val devs h]
    rfl
  · rw [hread, readData_palette devs (Nat.not_lt_of_le h)]
    rfl
  · rw [hwrite, writeData_palette val devs (Nat.not_lt_of_le h)]
    rfl

/-! ## OAMADDR and OAMDATA (R1213 to R1215) -/

theorem and_three_eq_two_iff (b : Byte) : b &&& 3 = 2 ↔ b.toNat % 4 = 2 := by
  rw [← BitVec.toNat_inj, BitVec.toNat_and]
  exact iff_of_eq (congrArg (· = 2) (Nat.and_two_pow_sub_one_eq_mod b.toNat 2))

/-- What an OAMDATA write of `v` stores at cell `k` (R1214). -/
def Ppu.oamStoredAt (p : Ppu) (k v : Byte) : Byte :=
  if p.renderingActive then 0xFF else if k.toNat % 4 = 2 then v &&& 0xE3 else v

theorem oamStored_eq (p : Ppu) (v : Byte) : p.oamStored v = p.oamStoredAt p.oamAddr v := by
  simp only [Ppu.oamStored, Ppu.oamStoredAt, and_three_eq_two_iff]

/-- Settles O44: the write is one `set` of the OAM vector. -/
theorem oamRegisters : Obligations.OamRegisters := by
  intro devs vd val p active stored
  refine ⟨rfl, ⟨(p.writeOamData val).oam, rfl, fun k => ?_⟩, Vector.getElem?_eq_getElem _, rfl⟩
  have hstored : p.oamStored val = stored := oamStored_eq p val
  show (p.oam.set p.oamAddr.toNat (p.oamStored val) p.oamAddr.isLt)[k.val] = _
  rw [Vector.getElem_set, hstored]
  exact if_congr eq_comm rfl rfl

/-! ## The palette (R1218) -/

/-- The cell of a palette address: the multiples of 4 repeat every 16 addresses, the others every 32. -/
theorem palIndex_toNat (a : Nat) : (palIndex a).toNat = if a % 4 = 0 then a % 16 else a % 32 := by
  have key : ∀ x : BitVec 5, (if x &&& 0x13 = 0x10 then x &&& 0x0F else x).toNat =
      if x.toNat % 4 = 0 then x.toNat % 16 else x.toNat := by decide
  have ha := key (BitVec.ofNat 5 a)
  rw [BitVec.toNat_ofNat] at ha
  rw [palIndex, ha]
  split <;> split <;> omega

theorem paletteAt_setPalette (p : Ppu) (a b : Nat) (v : Byte) : (p.setPalette a v).paletteAt b =
    if (palIndex a).toNat = (palIndex b).toNat then v.setWidth 6 else p.paletteAt b :=
  Vector.getElem_set (palIndex a).isLt (palIndex b).isLt

/-- Settles O45: two addresses share a cell exactly when they have the same index. -/
theorem paletteMirroring : Obligations.PaletteMirroring := by
  intro p a b v same
  have hsame : (palIndex a).toNat = (palIndex b).toNat ↔ same := by
    rw [palIndex_toNat, palIndex_toNat]
    show _ ↔ (a % 32 = b % 32 ∨ (a % 4 = 0 ∧ b % 4 = 0 ∧ a % 16 = b % 16))
    split <;> split <;> omega
  rw [paletteAt_setPalette]
  exact ⟨fun h => if_pos (hsame.mpr h), fun h => if_neg fun he => h (hsame.mp he)⟩

end Sys2Proof.Machine
end

section
/-! PROOFS. The NMI output, the PPUSTATUS read and the VBlank race (R1212, R1260, R1400, R1524). -/

namespace Sys2Proof.Machine

/-! ## The NMI output (R1260) -/

/-- The target level in the terms of the statements. -/
theorem nmiTarget_eq (p : Ppu) : p.nmiTarget = (p.vbl && p.ctrl.getLsbD 7 &&
    !(decide (p.scanline = 241) && (decide (p.dot = 2) || decide (p.dot = 3)))) := by
  rw [Bool.and_or_distrib_left]
  rfl

theorem updateNmi_of_settled {vd : Video} (h : vd.ppu.nmiOut = vd.ppu.nmiTarget) : updateNmi vd = vd := by
  rw [updateNmi, h, Bool.and_not_self, Bool.not_and_self, if_neg Bool.false_ne_true, if_neg Bool.false_ne_true]

/-- `update_nmi()` leaves an output that it would not change again. -/
theorem updateNmi_settles (vd : Video) : (updateNmi vd).ppu.nmiOut = (updateNmi vd).ppu.nmiTarget := by
  rw [updateNmi_ppu]
  rfl

theorem updateNmi_idem (vd : Video) : updateNmi (updateNmi vd) = updateNmi vd :=
  updateNmi_of_settled (updateNmi_settles vd)

/-- With a target of 0 the line is released, if it was asserted. -/
theorem updateNmi_nmi_of_low {vd : Video} (h : vd.ppu.nmiTarget = false) :
    (updateNmi vd).nmi = if vd.ppu.nmiOut then vd.nmi.release Config.ppuNmiSource else vd.nmi := by
  rw [updateNmi, h]
  cases vd.ppu.nmiOut <;> rfl

theorem updateNmi_nmi_of_rise {vd : Video} (h : vd.ppu.nmiTarget = true) (hout : vd.ppu.nmiOut = false) :
    (updateNmi vd).nmi = vd.nmi.raise Config.ppuNmiSource := by
  rw [updateNmi, h, hout]
  rfl

/-- Settles O47: the output is its target after every `update_nmi()`, and each of the three callers ends in one. -/
theorem nmiOutputFollowsItsTarget : Obligations.NmiOutputFollowsItsTarget := by
  refine ⟨fun vd hwf => ?_, fun devs vd => updateNmi_idem _, fun devs vd val =>
    ⟨updateNmi_settles (vd.mapPpu (·.writeCtrl val)), updateNmi_settles (vd.mapPpu Ppu.readStatusEffect)⟩⟩
  intro p hold target
  have htarget : p.nmiTarget = target := nmiTarget_eq p
  refine ⟨?_, updateNmi_bus vd, ?_, updateNmi_line hwf⟩
  · rw [updateNmi_ppu, ← htarget]
  · rw [updateNmi_edge hwf, ← htarget]

/-! ## The PPUSTATUS read (R1212) -/

theorem statusByte_eq (p : Ppu) : p.statusByte = BitVec.ofNat 8
    (128 * flagNat p.vbl + 64 * flagNat p.spr0Hit + 32 * flagNat p.sprOverflow + p.ioLatch.toNat % 32) := by
  have hlow : p.ioLatch.extractLsb' 0 5 = BitVec.ofNat 5 (p.ioLatch.toNat % 32) := by
    refine BitVec.eq_of_toNat_eq ?_
    simp
  have key : ∀ (a b c : Bool) (x : Fin 32), BitVec.ofBool a ++ BitVec.ofBool b ++ BitVec.ofBool c ++
      BitVec.ofNat 5 x.val = BitVec.ofNat 8 (128 * flagNat a + 64 * flagNat b + 32 * flagNat c + x.val) := by decide
  rw [Ppu.statusByte, hlow]
  exact key p.vbl p.spr0Hit p.sprOverflow ⟨p.ioLatch.toNat % 32, Nat.mod_lt _ (by decide)⟩

theorem statusByte_bit7 (p : Ppu) : p.statusByte.getLsbD 7 = p.vbl := by
  simp only [Ppu.statusByte, BitVec.getLsbD_append]
  simp

/-- A PPUSTATUS read clears `vbl`, so the target of the NMI output is 0 (R1260). -/
theorem readStatusEffect_target (p : Ppu) : p.readStatusEffect.nmiTarget = false := rfl

theorem readStatus_ppu (devs : List Device) (vd : Video) : (ppuRegisterRead 2 devs vd).2.ppu =
    { vd.ppu.readStatusEffect with nmiOut := false, ioLatch := vd.ppu.statusByte } := by
  show { (updateNmi (vd.mapPpu Ppu.readStatusEffect)).ppu with ioLatch := vd.ppu.statusByte } = _
  rw [updateNmi_ppu]
  rfl

theorem readStatus_nmi (devs : List Device) (vd : Video) : (ppuRegisterRead 2 devs vd).2.nmi =
    if vd.ppu.nmiOut then vd.nmi.release Config.ppuNmiSource else vd.nmi :=
  updateNmi_nmi_of_low (readStatusEffect_target vd.ppu)

theorem readStatus_edge (devs : List Device) (vd : Video) :
    (ppuRegisterRead 2 devs vd).2.nmi.edgePending = vd.nmi.edgePending := by
  rw [readStatus_nmi]
  split <;> rfl

/-- Settles O39: the effects on the PPU, then the release of an asserted output. -/
theorem statusRead : Obligations.StatusRead := by
  intro devs vd p value q
  have hvalue : p.statusByte = value := statusByte_eq p
  have hnmi : q.2.nmi = if p.nmiOut then vd.nmi.release Config.ppuNmiSource else vd.nmi := readStatus_nmi devs vd
  refine ⟨hvalue, ?_, updateNmi_bus _, readStatus_edge devs vd, fun h => ?_, fun h => ?_⟩
  · rw [← hvalue]
    exact readStatus_ppu devs vd
  · rw [hnmi, h, if_pos rfl]
  · rw [hnmi, h, if_neg Bool.false_ne_true]

/-! ## The VBlank race (R1212, R1400, R1524) -/

/-- A dot of a line outside the picture is its flags, its position and `update_nmi()` (R1300). -/
theorem ppuDot_off_render (devs : List Device) {vd : Video} (h : 240 ≤ vd.ppu.scanline) (h' : vd.ppu.scanline ≤ 260) :
    ppuDot devs vd = updateNmi (vd.mapPpu fun p => (p.flagOps vd.ppu.scanline vd.ppu.dot).advancePosition
      vd.ppu.scanline vd.ppu.dot vd.ppu.renderingEnabled) := by
  have hrender : isRenderLine vd.ppu.scanline = false := by simp [isRenderLine]; omega
  have hpixel : pixelStage vd.ppu.scanline vd.ppu.dot vd.ppu.renderingEnabled vd = vd := by
    simp [pixelStage, Nat.not_le_of_lt h]
  simp [ppuDot, dotAt, hrender, hpixel]

/-- The PPU after the flags and the position of a dot in the middle of line 241. -/
def Ppu.vblankDot (p : Ppu) : Ppu :=
  { p with
    vbl := if p.dot = 1 then p.vbl || !p.vblSuppress else p.vbl
    vblSuppress := if p.dot = 1 then false else p.vblSuppress
    dot := p.dot + 1 }

theorem ppuDot_vblank (devs : List Device) {vd : Video} (hline : vd.ppu.scanline = 241) (hdot : vd.ppu.dot < 340) :
    ppuDot devs vd = updateNmi (vd.mapPpu Ppu.vblankDot) := by
  rw [ppuDot_off_render devs (by omega) (by omega), hline]
  have hne : ¬ vd.ppu.dot = 340 := Nat.ne_of_lt hdot
  have hppu : (vd.ppu.flagOps 241 vd.ppu.dot).advancePosition 241 vd.ppu.dot vd.ppu.renderingEnabled =
      vd.ppu.vblankDot := by
    by_cases h1 : vd.ppu.dot = 1 <;> simp [Ppu.flagOps, Ppu.advancePosition, Ppu.vblankDot, h1, hne]
  exact congrArg updateNmi (congrArg (fun q => { vd with ppu := q }) hppu)

/-- Line 241 before any NMI of it: the PPU is about to run dot `d` with NMI enabled, and nothing has reached the NMI
line. -/
structure BeforeNmi (d : Nat) (vbl suppressed : Bool) (vd : Video) : Prop where
  line : vd.ppu.scanline = 241
  dot : vd.ppu.dot = d
  enabled : vd.ppu.ctrl.getLsbD 7 = true
  vbl : vd.ppu.vbl = vbl
  suppressed : vd.ppu.vblSuppress = suppressed
  out : vd.ppu.nmiOut = false
  nmi : vd.nmi = { sources := [], edgePending := false }

section Race
variable {d : Nat} {vbl suppressed : Bool} {vd : Video} (devs : List Device) (h : BeforeNmi d vbl suppressed vd)
include h

/-- A PPUSTATUS read returns the flag, clears it, and suppresses it before dot 1. -/
theorem BeforeNmi.read : (ppuRegisterRead 2 devs vd).1.getLsbD 7 = vbl ∧
    BeforeNmi d false (suppressed || decide (d = 1)) (ppuRegisterRead 2 devs vd).2 := by
  obtain ⟨hline, hdot, hen, hvbl, hsup, hout, hnmi⟩ := h
  refine ⟨(statusByte_bit7 vd.ppu).trans hvbl, ?_⟩
  have hppu := readStatus_ppu devs vd
  have hmark : (vd.ppu.vblSuppress || vd.ppu.landsOn 241 1) = (suppressed || decide (d = 1)) := by
    simp [Ppu.landsOn, hline, hdot, hsup, beq_eq_decide]
  constructor
  case nmi => rw [readStatus_nmi, hout, if_neg Bool.false_ne_true, hnmi]
  all_goals rw [hppu]
  · exact hline
  · exact hdot
  · exact hen
  · rfl
  · exact hmark

/-- The level that `update_nmi()` works towards at the end of the dot. -/
theorem BeforeNmi.target_after : vd.ppu.vblankDot.nmiTarget =
    ((if d = 1 then vbl || !suppressed else vbl) && !(decide (d + 1 = 2) || decide (d + 1 = 3))) := by
  obtain ⟨hline, hdot, hen, hvbl, hsup, -, -⟩ := h
  simp only [nmiTarget_eq, Ppu.vblankDot, hline, hdot, hen, hvbl, hsup, decide_true, Bool.and_true, Bool.true_and]

/-- A dot at whose end the target is 0 makes no edge. -/
theorem BeforeNmi.quietDot (hd : d < 340)
    (hlow : ((if d = 1 then vbl || !suppressed else vbl) && !(decide (d + 1 = 2) || decide (d + 1 = 3))) = false) :
    BeforeNmi (d + 1) (if d = 1 then vbl || !suppressed else vbl) (if d = 1 then false else suppressed)
      (ppuDot devs vd) := by
  have htarget := h.target_after.trans hlow
  obtain ⟨hline, hdot, hen, hvbl, hsup, hout, hnmi⟩ := h
  have hppu : (ppuDot devs vd).ppu = { vd.ppu.vblankDot with nmiOut := false } := by
    rw [ppuDot_vblank devs hline (hdot ▸ hd), updateNmi_ppu, Video.mapPpu_ppu, htarget]
  have hkept : (ppuDot devs vd).nmi = vd.nmi := by
    rw [ppuDot_vblank devs hline (hdot ▸ hd), updateNmi_nmi_of_low htarget]
    exact if_neg (hout ▸ Bool.false_ne_true)
  constructor
  case nmi => exact hkept.trans hnmi
  all_goals rw [hppu]
  · exact hline
  · exact congrArg (· + 1) hdot
  · exact hen
  · simp only [Ppu.vblankDot, hdot, hvbl, hsup]
  · simp only [Ppu.vblankDot, hdot, hsup]

end Race

/-- The dot after the hold lets a set flag through: the output rises, with a new edge. -/
theorem BeforeNmi.risingDot (devs : List Device) {suppressed : Bool} {vd : Video}
    (h : BeforeNmi 3 true suppressed vd) : (ppuDot devs vd).ppu.vbl = true ∧ (ppuDot devs vd).ppu.nmiOut = true ∧
      (ppuDot devs vd).nmi.edgePending = true := by
  have htarget : vd.ppu.vblankDot.nmiTarget = true := h.target_after
  obtain ⟨hline, hdot, -, hvbl, -, hout, hnmi⟩ := h
  rw [ppuDot_vblank devs hline (hdot ▸ by decide)]
  refine ⟨?_, ?_, ?_⟩
  · rw [updateNmi_ppu]
    simp [Ppu.vblankDot, hdot, hvbl]
  · rw [updateNmi_ppu]
    exact htarget
  · rw [updateNmi_nmi_of_rise (vd := vd.mapPpu Ppu.vblankDot) htarget hout, Video.mapPpu_nmi, hnmi]
    rfl

/-- Settles O40: the quiet states of line 241 from dot to dot, each left by its read. -/
theorem verticalBlankRace : Obligations.VerticalBlankRace := by
  intro devs vd hline hdot hen hvbl hsup hout hnmi dot read
  have at1 : BeforeNmi 1 false false vd := ⟨hline, hdot, hen, hvbl, hsup, hout, hnmi⟩
  have at2 : BeforeNmi 2 true false (dot vd) := at1.quietDot devs (by decide) rfl
  have at3 : BeforeNmi 3 true false (dot (dot vd)) := at2.quietDot devs (by decide) rfl
  obtain ⟨hset, hrise, hedge⟩ := at3.risingDot devs
  obtain ⟨hbit1, read1⟩ := at1.read devs
  obtain ⟨hbit2, read2⟩ := at2.read devs
  obtain ⟨hbit3, read3⟩ := at3.read devs
  have read1_2 : BeforeNmi 2 false false (dot (read vd).2) := read1.quietDot devs (by decide) rfl
  have read1_3 : BeforeNmi 3 false false (dot (dot (read vd).2)) := read1_2.quietDot devs (by decide) rfl
  have read1_4 : BeforeNmi 4 false false (dot (dot (dot (read vd).2))) := read1_3.quietDot devs (by decide) rfl
  have read2_3 : BeforeNmi 3 false false (dot (read (dot vd)).2) := read2.quietDot devs (by decide) rfl
  have read2_4 : BeforeNmi 4 false false (dot (dot (read (dot vd)).2)) := read2_3.quietDot devs (by decide) rfl
  have read3_4 : BeforeNmi 4 false false (dot (read (dot (dot vd))).2) := read3.quietDot devs (by decide) rfl
  have releases : (read (dot (dot (dot vd)))).2.ppu.nmiOut = false := by rw [readStatus_ppu]
  exact ⟨⟨at2.vbl, at2.out, at3.out, hrise, hedge⟩,
    ⟨hbit1, read1_2.vbl, read1_4.out, congrArg NmiLine.edgePending read1_4.nmi⟩,
    ⟨hbit2, read2_4.out, congrArg NmiLine.edgePending read2_4.nmi⟩,
    ⟨hbit3, read3_4.out, congrArg NmiLine.edgePending read3_4.nmi⟩,
    (statusByte_bit7 _).trans hset, releases, (readStatus_edge devs _).trans hedge⟩

end Sys2Proof.Machine
end

section
/-! PROOFS. OAM DMA (R1240): the copy of a page through OAMDATA, byte by byte. -/

namespace Sys2Proof.Machine

theorem cpuRead_rom {s : State} {addr : Word} {id off : Nat} {d : Device} (hk : d.kind = .rom)
    (h : resolve s.cpuBus.reads s.devices addr.toNat = .hit id d off) :
    cpuRead addr s = (d.byteAt off, s.setCpuBus (s.cpuBus.latch (d.byteAt off))) := by
  unfold cpuRead
  rw [h, readTarget_other (by rw [hk]; decide)]
  simp only [AddressSpace.readTarget, hk]

/-- A CPU read that memory answers changes only the open-bus latch (R206, R210). -/
theorem cpuRead_of_memory {addr : Word} {s : State} {b : Byte} (h : s.memoryByte addr = some b) :
    cpuRead addr s = (b, s.setCpuBus (s.cpuBus.latch b)) := by
  unfold State.memoryByte at h
  split at h
  · rename_i id d off hr
    cases hk : d.kind with
    | ram =>
      simp only [hk, Option.some.injEq] at h
      exact h ▸ cpuRead_ram hk hr
    | rom =>
      simp only [hk, Option.some.injEq] at h
      exact h ▸ cpuRead_rom hk hr
    | _ => simp [hk] at h
  · cases h

theorem isOamDma_iff (t : Target) : t.isOamDma = true ↔ ∃ id d off, t = .hit id d off ∧ d.kind = .oamDma := by
  cases t <;> simp [Target.isOamDma]

/-- The OAMDMA register stores nothing: the write is the latch's update and the copy (R1240; log 11). -/
theorem cpuWrite_oamDma {s : State} {addr : Word} (page : Byte)
    (h : (resolve s.cpuBus.writes s.devices addr.toNat).isOamDma = true) :
    cpuWrite addr page s = oamDma page (s.setCpuBus (s.cpuBus.latch page)) := by
  obtain ⟨id, d, off, hr, hk⟩ := (isOamDma_iff _).mp h
  have hdevice : s.writeDevice page (.hit id d off) = s := by
    rw [writeDevice_other (by rw [hk]; decide)]
    simp only [storeTarget, hk]
    rfl
  unfold cpuWrite State.writeTarget
  rw [h, hr, hdevice]
  exact if_pos rfl

/-- The machine after one byte of a DMA: it is on the bus and written to OAMDATA. -/
def State.dmaByte (s : State) (b : Byte) : State :=
  (s.setCpuBus (s.cpuBus.latch b)).setVideo (s.video.mapPpu fun p => { p.writeOamData b with ioLatch := b })

theorem dmaByte_memoryByte (s : State) (b : Byte) (addr : Word) : (s.dmaByte b).memoryByte addr = s.memoryByte addr :=
  memoryByte_congr rfl rfl addr

theorem dmaCopy_succ_of_memory {page i b : Byte} {s : State} (h : s.memoryByte (joinBytes page i) = some b) (n : Nat) :
    dmaCopy page (n + 1) i s = dmaCopy page n (i + 1) (s.dmaByte b) := by
  rw [dmaCopy_succ, cpuRead_of_memory h]
  rfl

/-- What a copy leaves of the machine: besides the OAM only its address, now `next`, and the two latches have changed,
and both hold the byte `last`. -/
structure DmaLatches (s t : State) (next last : Byte) : Prop where
  ppu : t.video.ppu = { s.video.ppu with oam := t.video.ppu.oam, oamAddr := next, ioLatch := last }
  bus : t.video.bus = s.video.bus
  nmi : t.video.nmi = s.video.nmi
  cpuBus : t.cpuBus = { s.cpuBus with openBus := last }

theorem dmaByte_latches (s : State) (b : Byte) : DmaLatches s (s.dmaByte b) (s.video.ppu.oamAddr + 1) b :=
  ⟨rfl, rfl, rfl, rfl⟩

theorem DmaLatches.trans {s t u : State} {m n a b : Byte} (h : DmaLatches s t m a) (k : DmaLatches t u n b) :
    DmaLatches s u n b where
  ppu := by rw [k.ppu, h.ppu]
  bus := k.bus.trans h.bus
  nmi := k.nmi.trans h.nmi
  cpuBus := by rw [k.cpuBus, h.cpuBus]

/-- Cell `k` of the OAM after a copy whose first byte is `f i`: written if it is one of the `n` cells from the OAM
address on, in the order of the reads. -/
def Ppu.dmaCell (p : Ppu) (f : Byte → Byte) (i : Byte) (n : Nat) (k : Byte) : Byte :=
  if (k - p.oamAddr).toNat < n then p.oamStoredAt k (f (i + (k - p.oamAddr))) else p.oamAt k

theorem oamAt_writeOamData (p : Ppu) (v k : Byte) :
    (p.writeOamData v).oamAt k = if k = p.oamAddr then p.oamStoredAt k v else p.oamAt k := by
  show (p.oam.set p.oamAddr.toNat (p.oamStored v) p.oamAddr.isLt)[k.toNat]'k.isLt = _
  rw [Vector.getElem_set, oamStored_eq]
  by_cases hk : k = p.oamAddr
  · rw [if_pos (congrArg BitVec.toNat hk.symm), if_pos hk, hk]
  · rw [if_neg fun h => hk (BitVec.eq_of_toNat_eq h.symm), if_neg hk]
    rfl

/-- The first byte goes to the OAM address, the others to the cells after it. -/
theorem dmaCell_succ (s : State) (f : Byte → Byte) (i k : Byte) {n : Nat} (hn : n < 256) :
    (s.dmaByte (f i)).video.ppu.dmaCell f (i + 1) n k = s.video.ppu.dmaCell f i (n + 1) k := by
  have haddr : (s.dmaByte (f i)).video.ppu.oamAddr = s.video.ppu.oamAddr + 1 := rfl
  have hcell : (s.dmaByte (f i)).video.ppu.oamAt k = _ := oamAt_writeOamData s.video.ppu (f i) k
  have hstored (v : Byte) : (s.dmaByte (f i)).video.ppu.oamStoredAt k v = s.video.ppu.oamStoredAt k v := rfl
  have hrest : k - (s.video.ppu.oamAddr + 1) = k - s.video.ppu.oamAddr - 1 := by bv_omega
  simp only [Ppu.dmaCell, haddr, hcell, hstored, hrest]
  by_cases hk : k = s.video.ppu.oamAddr
  · have hfirst : ¬ (k - s.video.ppu.oamAddr - 1).toNat < n := by bv_omega
    have hzero : k - s.video.ppu.oamAddr = 0#8 := by rw [hk, BitVec.sub_self]
    rw [if_neg hfirst, if_pos hk, hzero, if_pos (show (0#8).toNat < n + 1 from Nat.succ_pos n), BitVec.add_zero]
  · have hne : (k - s.video.ppu.oamAddr).toNat ≠ 0 := fun h => hk (by bv_omega)
    have hpred : (k - s.video.ppu.oamAddr - 1).toNat + 1 = (k - s.video.ppu.oamAddr).toNat := by bv_omega
    have hindex : i + 1 + (k - s.video.ppu.oamAddr - 1) = i + (k - s.video.ppu.oamAddr) := by bv_omega
    rw [if_neg hk, hindex, ← hpred]
    simp only [Nat.add_lt_add_iff_right]

/-- A copy of at most 256 bytes writes no cell twice, and the latches end with the last byte read (R1240). -/
theorem dmaCopy_of_memory (page : Byte) (f : Byte → Byte) {n : Nat} (hn : n < 256) {i : Byte} {s : State}
    (h : ∀ j : Byte, s.memoryByte (joinBytes page j) = some (f j)) :
    DmaLatches s (dmaCopy page (n + 1) i s) (s.video.ppu.oamAddr + BitVec.ofNat 8 (n + 1)) (f (i + BitVec.ofNat 8 n)) ∧
    ∀ k, (dmaCopy page (n + 1) i s).video.ppu.oamAt k = s.video.ppu.dmaCell f i (n + 1) k := by
  induction n generalizing i s with
  | zero =>
    rw [dmaCopy_succ_of_memory (h i), BitVec.add_zero]
    exact ⟨dmaByte_latches s (f i), fun k => dmaCell_succ s f i k hn⟩
  | succ n ih =>
    obtain ⟨hlatches, hcells⟩ := ih (i := i + 1) (s := s.dmaByte (f i)) (by omega) fun j =>
      (dmaByte_memoryByte s (f i) _).trans (h j)
    have hnext (b : Byte) (m : Nat) : b + BitVec.ofNat 8 (m + 1) = b + 1 + BitVec.ofNat 8 m := by
      rw [Nat.add_comm m 1, BitVec.ofNat_add, BitVec.add_assoc]
      rfl
    rw [dmaCopy_succ_of_memory (h i), hnext _ (n + 1), hnext i n]
    exact ⟨(dmaByte_latches s (f i)).trans hlatches, fun k => (hcells k).trans (dmaCell_succ s f i k hn)⟩

/-- The 256 cells from the OAM address on are all of the OAM, and as many increments bring the address back. -/
theorem oamDma_of_memory (page : Byte) (f : Byte → Byte) {s : State}
    (h : ∀ j : Byte, s.memoryByte (joinBytes page j) = some (f j)) :
    DmaLatches s (oamDma page s) s.video.ppu.oamAddr (f 255) ∧
    ∀ k, (oamDma page s).video.ppu.oamAt k = s.video.ppu.dmaCell f 0 256 k := by
  have hcopy := dmaCopy_of_memory page f (n := 255) (by decide) (i := 0) h
  rw [show s.video.ppu.oamAddr + BitVec.ofNat 8 256 = s.video.ppu.oamAddr from BitVec.add_zero _] at hcopy
  unfold oamDma
  generalize dmaCopy page 256 0 s = q at hcopy ⊢
  obtain ⟨⟨hppu, hbus, hnmi, hcpuBus⟩, hcells⟩ := hcopy
  exact ⟨⟨hppu, hbus, hnmi, hcpuBus⟩, hcells⟩

/-- Settles O48: every cell of the OAM is one of the copy's, and the rest is what the latches and the stall leave. -/
theorem oamDmaCopiesAPage : Obligations.OamDmaCopiesAPage := by
  refine ⟨fun s addr page h => cpuWrite_oamDma page h, fun s page f hmem => ?_⟩
  intro p t
  obtain ⟨⟨hppu, hbus, hnmi, hcpuBus⟩, hcells⟩ := oamDma_of_memory page f hmem
  obtain ⟨hcpu, hdevices, hirq, hdiagnostics, hsched⟩ := oamDma_same page s
  refine ⟨fun i => ?_, ?_, hbus, hnmi, hcpuBus, hsched, hcpu, hdevices, hirq, hdiagnostics⟩
  · have hoffset : p.oamAddr + i - p.oamAddr = i := by bv_omega
    rw [hcells, Ppu.dmaCell, hoffset, if_pos i.isLt, show 0 + i = i from BitVec.zero_add i]
    rfl
  · exact hppu

end Sys2Proof.Machine
end

section
/-! PROOFS. What one PPU dot does, stage by stage (R1300): the fields each stage owns, so that a later proof reads a field
of the PPU after a dot off the one stage that sets it. -/

namespace Sys2Proof.Machine

/-! ## What each stage owns (R1300) -/

/-- `q` is `p` but for the shifters. -/
def ShiftFrame (p q : Ppu) : Prop := q = { p with bgLo := q.bgLo, bgHi := q.bgHi, atLo := q.atLo, atHi := q.atHi }

/-- `q` is `p` but for what the shift and the pixel of a dot own: the shifters, the sprite-0 flag, the framebuffer. -/
def DrawFrame (p q : Ppu) : Prop :=
  q = { p with
    bgLo := q.bgLo
    bgHi := q.bgHi
    atLo := q.atLo
    atHi := q.atHi
    spr0Hit := q.spr0Hit
    framebuffer := q.framebuffer }

/-- `q` is `p` but for the latches of the tile fetches. -/
def TileFrame (p q : Ppu) : Prop :=
  q = { p with ntByte := q.ntByte, atBits := q.atBits, ptLo := q.ptLo, ptHi := q.ptHi }

/-- `q` is `p` but for what the sprite fetches own: the units and the saved low byte. -/
def UnitFrame (p q : Ppu) : Prop := q = { p with sprFetchLo := q.sprFetchLo, units := q.units }

theorem bgShiftAndReload_frame (d : Nat) (p : Ppu) : ShiftFrame p (p.bgShiftAndReload d) := by
  unfold Ppu.bgShiftAndReload
  dsimp only
  split <;> split <;> rfl

theorem outputPixel_frame (l col : Nat) (en : Bool) (p : Ppu) : p.outputPixel l col en =
    { p with
      spr0Hit := (p.outputPixel l col en).spr0Hit
      framebuffer := (p.outputPixel l col en).framebuffer } := by
  unfold Ppu.outputPixel
  split <;> rfl

theorem pixelStage_of_visible {l d : Nat} (hl : l ≤ 239) (h1 : 1 ≤ d) (h2 : d ≤ 256) (en : Bool) (vd : Video) :
    pixelStage l d en vd = vd.mapPpu (Ppu.outputPixel l (d - 1) en) := by
  simp [pixelStage, hl, h1, h2]

theorem pixelStage_of_hidden {l d : Nat} (h : ¬ (l ≤ 239 ∧ 1 ≤ d ∧ d ≤ 256)) (en : Bool) (vd : Video) :
    pixelStage l d en vd = vd := by
  refine if_neg fun hc => h ?_
  simpa [and_assoc] using hc

@[simp] theorem pixelStage_bus (l d : Nat) (en : Bool) (vd : Video) : (pixelStage l d en vd).bus = vd.bus := by
  unfold pixelStage
  split <;> rfl

theorem pixelStage_frame (l d : Nat) (en : Bool) (vd : Video) : (pixelStage l d en vd).ppu =
    { vd.ppu with
      spr0Hit := (pixelStage l d en vd).ppu.spr0Hit
      framebuffer := (pixelStage l d en vd).ppu.framebuffer } := by
  unfold pixelStage
  split
  · exact outputPixel_frame l (d - 1) en vd.ppu
  · rfl

theorem tileFetch_frame (phase : Nat) (devs : List Device) (vd : Video) :
    TileFrame vd.ppu (tileFetch phase devs vd).ppu := by
  unfold tileFetch
  split <;> rfl

theorem bgFetch_frame (d : Nat) (devs : List Device) (vd : Video) : TileFrame vd.ppu (bgFetch d devs vd).ppu := by
  unfold bgFetch
  split
  · exact tileFetch_frame _ devs vd
  · split <;> rfl

theorem spriteFetch_frame (l i o : Nat) (devs : List Device) (vd : Video) :
    UnitFrame vd.ppu (spriteFetch l i o devs vd).ppu := by
  unfold spriteFetch
  split <;> rfl

theorem spriteOps_of_fetch {l d : Nat} (h1 : 257 ≤ d) (h2 : d ≤ 320) (devs : List Device) (vd : Video) :
    spriteOps l d devs vd = spriteFetch l ((d - 257) / 8) ((d - 257) % 8) devs
      (vd.mapPpu fun p => { p.spriteEval l d with oamAddr := 0 }) := by
  rw [spriteOps, if_pos (by simp [h1, h2])]
  rfl

theorem spriteOps_of_no_fetch {l d : Nat} (h : ¬ (257 ≤ d ∧ d ≤ 320)) (devs : List Device) (vd : Video) :
    spriteOps l d devs vd = vd.mapPpu (Ppu.spriteEval l d) := by
  refine if_neg fun hc => h ?_
  simpa using hc

/-- `q` is `p` but for what the stages of a rendering dot own. -/
def StageFrame (p q : Ppu) : Prop :=
  q = { p with
    bgLo := q.bgLo
    bgHi := q.bgHi
    atLo := q.atLo
    atHi := q.atHi
    spr0Hit := q.spr0Hit
    framebuffer := q.framebuffer
    ntByte := q.ntByte
    atBits := q.atBits
    ptLo := q.ptLo
    ptHi := q.ptHi
    v := q.v
    oam2 := q.oam2
    spr0Next := q.spr0Next
    sprOverflow := q.sprOverflow
    evalN := q.evalN
    evalM := q.evalM
    evalFound := q.evalFound
    evalPhase := q.evalPhase
    sprCountLine := q.sprCountLine
    spr0Line := q.spr0Line
    oamAddr := q.oamAddr
    sprFetchLo := q.sprFetchLo
    units := q.units }

/-- `q` is `p` but for what the sprite stages own. -/
def SpriteFrame (p q : Ppu) : Prop :=
  q = { p with
    oam2 := q.oam2
    spr0Next := q.spr0Next
    sprOverflow := q.sprOverflow
    evalN := q.evalN
    evalM := q.evalM
    evalFound := q.evalFound
    evalPhase := q.evalPhase
    sprCountLine := q.sprCountLine
    spr0Line := q.spr0Line
    oamAddr := q.oamAddr
    sprFetchLo := q.sprFetchLo
    units := q.units }

/-- The sprite stages are the evaluation and, besides it, the OAM address and the fetches. -/
theorem spriteOps_eval (l d : Nat) (devs : List Device) (vd : Video) : (spriteOps l d devs vd).ppu =
    { vd.ppu.spriteEval l d with
      oamAddr := (spriteOps l d devs vd).ppu.oamAddr
      sprFetchLo := (spriteOps l d devs vd).ppu.sprFetchLo
      units := (spriteOps l d devs vd).ppu.units } := by
  by_cases h : 257 ≤ d ∧ d ≤ 320
  · have hfetch := spriteFetch_frame l ((d - 257) / 8) ((d - 257) % 8) devs
      (vd.mapPpu fun p => { p.spriteEval l d with oamAddr := 0 })
    rw [spriteOps_of_fetch h.1 h.2]
    unfold UnitFrame at hfetch
    rw [hfetch, Video.mapPpu_ppu]
  · rw [spriteOps_of_no_fetch h]
    rfl

theorem spriteOps_frame (l d : Nat) (devs : List Device) (vd : Video) :
    SpriteFrame vd.ppu (spriteOps l d devs vd).ppu := by
  have heval := spriteEval_frame l d vd.ppu
  have hops := spriteOps_eval l d devs vd
  unfold EvalFrame at heval
  unfold SpriteFrame
  rw [hops, heval]

/-! ## The stages of a dot with and without rendering (R1300) -/

/-- A rendering dot up to its pixel: the shift, then the pixel. -/
def drawnDot (vd : Video) : Video :=
  pixelStage vd.ppu.scanline vd.ppu.dot true (vd.mapPpu (Ppu.bgShiftAndReload vd.ppu.dot))

/-- A rendering dot up to its sprite stages: the shift, the pixel, the tile fetch and the scroll. -/
def beforeSprites (devs : List Device) (vd : Video) : Video :=
  (bgFetch vd.ppu.dot devs (drawnDot vd)).mapPpu (Ppu.scrollOps vd.ppu.scanline vd.ppu.dot)

/-- The dot of `vd` renders: its line is a render line and a layer is on. -/
def Video.renders (vd : Video) : Bool := isRenderLine vd.ppu.scanline && vd.ppu.renderingEnabled

theorem dotStages_of_renders {vd : Video} (h : vd.renders = true) (devs : List Device) :
    dotStages devs vd = spriteOps vd.ppu.scanline vd.ppu.dot devs (beforeSprites devs vd) := by
  obtain ⟨hline, hen⟩ := Bool.and_eq_true_iff.mp h
  simp only [dotStages, hline, hen, Bool.and_self, if_true]
  rfl

theorem dotStages_of_not_renders {vd : Video} (h : vd.renders = false) (devs : List Device) :
    dotStages devs vd = pixelStage vd.ppu.scanline vd.ppu.dot vd.ppu.renderingEnabled vd := by
  unfold Video.renders at h
  simp only [dotStages, h, Bool.false_eq_true, if_false]

theorem drawnDot_bus (vd : Video) : (drawnDot vd).bus = vd.bus := pixelStage_bus _ _ _ _

theorem drawnDot_frame (vd : Video) : DrawFrame vd.ppu (drawnDot vd).ppu := by
  have hshift := bgShiftAndReload_frame vd.ppu.dot vd.ppu
  have hpixel := pixelStage_frame vd.ppu.scanline vd.ppu.dot true (vd.mapPpu (Ppu.bgShiftAndReload vd.ppu.dot))
  rw [Video.mapPpu_ppu] at hpixel
  unfold ShiftFrame at hshift
  unfold DrawFrame drawnDot
  rw [hpixel, hshift]

/-- What a rendering dot has changed before its sprite stages. -/
theorem beforeSprites_frame (devs : List Device) (vd : Video) : (beforeSprites devs vd).ppu =
    { vd.ppu with
      bgLo := (beforeSprites devs vd).ppu.bgLo
      bgHi := (beforeSprites devs vd).ppu.bgHi
      atLo := (beforeSprites devs vd).ppu.atLo
      atHi := (beforeSprites devs vd).ppu.atHi
      spr0Hit := (beforeSprites devs vd).ppu.spr0Hit
      framebuffer := (beforeSprites devs vd).ppu.framebuffer
      ntByte := (beforeSprites devs vd).ppu.ntByte
      atBits := (beforeSprites devs vd).ppu.atBits
      ptLo := (beforeSprites devs vd).ppu.ptLo
      ptHi := (beforeSprites devs vd).ppu.ptHi
      v := scrolledV vd.ppu.scanline vd.ppu.dot vd.ppu.t vd.ppu.v } := by
  have hdraw := drawnDot_frame vd
  have htile := bgFetch_frame vd.ppu.dot devs (drawnDot vd)
  unfold DrawFrame at hdraw
  unfold TileFrame at htile
  rw [hdraw] at htile
  unfold beforeSprites
  rw [Video.mapPpu_ppu, Ppu.scrollOps, htile]

theorem dotStages_frame (devs : List Device) (vd : Video) : StageFrame vd.ppu (dotStages devs vd).ppu := by
  cases h : vd.renders with
  | false =>
    have hpixel := pixelStage_frame vd.ppu.scanline vd.ppu.dot vd.ppu.renderingEnabled vd
    rw [dotStages_of_not_renders h]
    unfold StageFrame
    rw [hpixel]
  | true =>
    have hbefore := beforeSprites_frame devs vd
    have hsprite := spriteOps_frame vd.ppu.scanline vd.ppu.dot devs (beforeSprites devs vd)
    rw [dotStages_of_renders h]
    unfold SpriteFrame at hsprite
    unfold StageFrame
    rw [hsprite, hbefore]

/-! ## Flags and position (R1310, R1400, R1401) -/

/-- The PPU after a dot: its stages, the flags, the position and the NMI output. -/
theorem ppuDot_ppu (devs : List Device) (vd : Video) : (ppuDot devs vd).ppu =
    { ((dotStages devs vd).ppu.flagOps vd.ppu.scanline vd.ppu.dot).advancePosition vd.ppu.scanline vd.ppu.dot
        vd.ppu.renderingEnabled with nmiOut := (ppuDot devs vd).ppu.nmiOut } := by
  have h : ppuDot devs vd = updateNmi ((dotStages devs vd).mapPpu fun p =>
      (p.flagOps vd.ppu.scanline vd.ppu.dot).advancePosition vd.ppu.scanline vd.ppu.dot vd.ppu.renderingEnabled) := rfl
  rw [h, updateNmi_ppu, Video.mapPpu_ppu]

/-- `q` is `p` but for what the stages after the scroll own: the sprites, the flags, the position, the NMI output. -/
def LateFrame (p q : Ppu) : Prop :=
  q = { p with
    oam2 := q.oam2
    spr0Next := q.spr0Next
    sprOverflow := q.sprOverflow
    evalN := q.evalN
    evalM := q.evalM
    evalFound := q.evalFound
    evalPhase := q.evalPhase
    sprCountLine := q.sprCountLine
    spr0Line := q.spr0Line
    oamAddr := q.oamAddr
    sprFetchLo := q.sprFetchLo
    units := q.units
    vbl := q.vbl
    vblSuppress := q.vblSuppress
    spr0Hit := q.spr0Hit
    scanline := q.scanline
    dot := q.dot
    oddFrame := q.oddFrame
    nmiOut := q.nmiOut }

/-- After its scroll a rendering dot leaves the background and the picture alone. -/
theorem ppuDot_late {vd : Video} (h : vd.renders = true) (devs : List Device) :
    LateFrame (beforeSprites devs vd).ppu (ppuDot devs vd).ppu := by
  have hsprite := spriteOps_frame vd.ppu.scanline vd.ppu.dot devs (beforeSprites devs vd)
  have hflags := (ppuDot_stages devs vd).2
  rw [dotStages_of_renders h] at hflags
  unfold SpriteFrame at hsprite
  unfold FlagFrame at hflags
  unfold LateFrame
  rw [hflags, hsprite]

theorem ppuDot_bus_of_renders {vd : Video} (h : vd.renders = true) (devs : List Device) : (ppuDot devs vd).bus =
    (spriteOps vd.ppu.scanline vd.ppu.dot devs (beforeSprites devs vd)).bus := by
  rw [(ppuDot_stages devs vd).1, dotStages_of_renders h]

theorem flagOps_at_vblank (p : Ppu) :
    p.flagOps 241 1 = { p with vbl := p.vbl || !p.vblSuppress, vblSuppress := false } := rfl

theorem flagOps_at_prerender (p : Ppu) :
    p.flagOps 261 1 = { p with vbl := false, spr0Hit := false, sprOverflow := false } := rfl

theorem flagOps_elsewhere {l d : Nat} (h : ¬ ((l = 241 ∨ l = 261) ∧ d = 1)) (p : Ppu) : p.flagOps l d = p := by
  unfold Ppu.flagOps
  rw [if_neg (by simp; omega), if_neg (by simp; omega)]

theorem flagOps_frame (l d : Nat) (p : Ppu) : p.flagOps l d =
    { p with
      vbl := (p.flagOps l d).vbl
      vblSuppress := (p.flagOps l d).vblSuppress
      spr0Hit := (p.flagOps l d).spr0Hit
      sprOverflow := (p.flagOps l d).sprOverflow } := by
  unfold Ppu.flagOps
  split
  · rfl
  · split <;> rfl

theorem advancePosition_frame (l d : Nat) (en : Bool) (p : Ppu) : p.advancePosition l d en =
    { p with
      scanline := (p.advancePosition l d en).scanline
      dot := (p.advancePosition l d en).dot
      oddFrame := (p.advancePosition l d en).oddFrame } := by
  unfold Ppu.advancePosition
  split
  · rfl
  · split
    · split <;> rfl
    · rfl

end Sys2Proof.Machine
end

section
/-! PROOFS. The position of the PPU from dot to dot (R1310), and the dots without rendering (R1442). -/

namespace Sys2Proof.Machine

/-! ## Where a dot leads (R1310) -/

/-- The end of an odd rendered frame, one dot early. -/
theorem advancePosition_of_skip {p : Ppu} (h : p.oddFrame = true) :
    p.advancePosition 261 339 true = { p with scanline := 0, dot := 0, oddFrame := false } := by
  simp [Ppu.advancePosition, h]

theorem advancePosition_within {p : Ppu} {l d : Nat} {en : Bool}
    (hskip : ¬ (l = 261 ∧ d = 339 ∧ p.oddFrame = true ∧ en = true)) (hd : d < 340) :
    p.advancePosition l d en = { p with dot := d + 1 } := by
  unfold Ppu.advancePosition
  rw [if_neg (by simpa [and_assoc] using hskip), if_neg (by simp; omega)]

theorem advancePosition_of_lineEnd {l : Nat} (hl : l < 261) (en : Bool) (p : Ppu) :
    p.advancePosition l 340 en = { p with scanline := l + 1, dot := 0 } := by
  simp [Ppu.advancePosition, Nat.ne_of_lt hl]

theorem advancePosition_of_frameEnd (en : Bool) (p : Ppu) :
    p.advancePosition 261 340 en = { p with scanline := 0, dot := 0, oddFrame := !p.oddFrame } := by
  simp [Ppu.advancePosition]

/-- The position after a dot depends on the position before it alone. -/
theorem ppuDot_position (devs : List Device) (vd : Video) : ∃ x : Ppu, x.scanline = vd.ppu.scanline ∧
    x.oddFrame = vd.ppu.oddFrame ∧ (ppuDot devs vd).ppu =
      { x.advancePosition vd.ppu.scanline vd.ppu.dot vd.ppu.renderingEnabled with
        nmiOut := (ppuDot devs vd).ppu.nmiOut } := by
  have hflags := flagOps_frame vd.ppu.scanline vd.ppu.dot (dotStages devs vd).ppu
  have hstages := dotStages_frame devs vd
  exact ⟨_, (congrArg Ppu.scanline hflags).trans (congrArg Ppu.scanline hstages :),
    (congrArg Ppu.oddFrame hflags).trans (congrArg Ppu.oddFrame hstages :), ppuDot_ppu devs vd⟩

theorem ppuDot_of_skip (devs : List Device) {vd : Video} (hl : vd.ppu.scanline = 261) (hd : vd.ppu.dot = 339)
    (hodd : vd.ppu.oddFrame = true) (hen : vd.ppu.renderingEnabled = true) : (ppuDot devs vd).ppu.scanline = 0 ∧
      (ppuDot devs vd).ppu.dot = 0 ∧ (ppuDot devs vd).ppu.oddFrame = false := by
  obtain ⟨x, -, hx, hq⟩ := ppuDot_position devs vd
  rw [hl, hd, hen, advancePosition_of_skip (hx.trans hodd)] at hq
  rw [hq]
  exact ⟨rfl, rfl, rfl⟩

theorem ppuDot_within (devs : List Device) {vd : Video} (hskip : ¬ (vd.ppu.scanline = 261 ∧ vd.ppu.dot = 339 ∧
    vd.ppu.oddFrame = true ∧ vd.ppu.renderingEnabled = true)) (hd : vd.ppu.dot < 340) :
    (ppuDot devs vd).ppu.scanline = vd.ppu.scanline ∧ (ppuDot devs vd).ppu.dot = vd.ppu.dot + 1 ∧
      (ppuDot devs vd).ppu.oddFrame = vd.ppu.oddFrame := by
  obtain ⟨x, hline, hx, hq⟩ := ppuDot_position devs vd
  rw [advancePosition_within (by rw [hx]; exact hskip) hd] at hq
  rw [hq]
  exact ⟨hline, rfl, hx⟩

theorem ppuDot_of_lineEnd (devs : List Device) {vd : Video} (hd : vd.ppu.dot = 340) (hl : vd.ppu.scanline < 261) :
    (ppuDot devs vd).ppu.scanline = vd.ppu.scanline + 1 ∧ (ppuDot devs vd).ppu.dot = 0 ∧
      (ppuDot devs vd).ppu.oddFrame = vd.ppu.oddFrame := by
  obtain ⟨x, -, hx, hq⟩ := ppuDot_position devs vd
  rw [hd, advancePosition_of_lineEnd hl] at hq
  rw [hq]
  exact ⟨rfl, rfl, hx⟩

theorem ppuDot_of_frameEnd (devs : List Device) {vd : Video} (hd : vd.ppu.dot = 340) (hl : vd.ppu.scanline = 261) :
    (ppuDot devs vd).ppu.scanline = 0 ∧ (ppuDot devs vd).ppu.dot = 0 ∧
      (ppuDot devs vd).ppu.oddFrame = !vd.ppu.oddFrame := by
  obtain ⟨x, -, hx, hq⟩ := ppuDot_position devs vd
  rw [hd, hl, advancePosition_of_frameEnd] at hq
  rw [hq]
  exact ⟨rfl, rfl, congrArg (!·) hx⟩

theorem ppuDot_mask (devs : List Device) (vd : Video) : (ppuDot devs vd).ppu.mask = vd.ppu.mask :=
  (congrArg Ppu.mask (ppuDot_stages devs vd).2 :).trans (congrArg Ppu.mask (dotStages_frame devs vd) :)

theorem ppuDot_renderingEnabled (devs : List Device) (vd : Video) :
    (ppuDot devs vd).ppu.renderingEnabled = vd.ppu.renderingEnabled := by
  simp only [Ppu.renderingEnabled, Ppu.bgOn, Ppu.sprOn, ppuDot_mask]

/-- The number of the next dot within its frame. -/
def Ppu.dotIndex (p : Ppu) : Nat := 341 * p.scanline + p.dot

/-- Without rendering no dot is skipped: each leads to the next of the 89,342 of a frame. -/
theorem ppuDot_dotIndex (devs : List Device) {vd : Video} (hl : vd.ppu.scanline ≤ 261) (hd : vd.ppu.dot ≤ 340)
    (hen : vd.ppu.renderingEnabled = false) : (ppuDot devs vd).ppu.scanline ≤ 261 ∧ (ppuDot devs vd).ppu.dot ≤ 340 ∧
      (ppuDot devs vd).ppu.dotIndex = (vd.ppu.dotIndex + 1) % 89342 := by
  unfold Ppu.dotIndex
  obtain hlt | h340 := Nat.lt_or_eq_of_le hd
  · obtain ⟨hline, hdot, -⟩ := ppuDot_within devs (fun ⟨_, _, _, h⟩ => Bool.false_ne_true (hen.symm.trans h)) hlt
    omega
  · obtain hlt | h261 := Nat.lt_or_eq_of_le hl
    · obtain ⟨hline, hdot, -⟩ := ppuDot_of_lineEnd devs h340 hlt
      omega
    · obtain ⟨hline, hdot, -⟩ := ppuDot_of_frameEnd devs h340 h261
      omega

theorem iterate_ppuDot_dotIndex (devs : List Device) (n : Nat) {vd : Video} (hl : vd.ppu.scanline ≤ 261)
    (hd : vd.ppu.dot ≤ 340) (hen : vd.ppu.renderingEnabled = false) :
    (Nat.iterate (ppuDot devs) n vd).ppu.dotIndex = (vd.ppu.dotIndex + n) % 89342 := by
  induction n generalizing vd with
  | zero =>
    show vd.ppu.dotIndex = vd.ppu.dotIndex % 89342
    unfold Ppu.dotIndex
    omega
  | succ n ih =>
    obtain ⟨hl', hd', hindex⟩ := ppuDot_dotIndex devs hl hd hen
    rw [Function.iterate_succ_apply, ih hl' hd' ((ppuDot_renderingEnabled devs vd).trans hen), hindex]
    omega

/-- Settles O50: the four cases of `advance_position`, and without rendering the dots of a frame in a ring. -/
theorem dotsAdvanceThePosition : Obligations.DotsAdvanceThePosition := by
  refine ⟨fun devs vd _ _ => ⟨?_, ?_, ?_, ?_⟩, fun devs vd n hl hd hen => iterate_ppuDot_dotIndex devs n hl hd hen⟩
  · exact fun ⟨hl, hd, hodd, hen⟩ => ppuDot_of_skip devs hl hd hodd hen
  · exact ppuDot_within devs
  · exact ppuDot_of_lineEnd devs
  · exact ppuDot_of_frameEnd devs

/-! ## Dots without rendering (R1442) -/

/-- Settles O52: without rendering the one stage of a dot before its flags is the backdrop pixel. -/
theorem disabledRenderingOnlyOutputsTheBackdrop : Obligations.DisabledRenderingOnlyOutputsTheBackdrop := by
  intro devs vd hbg hspr p r q colour
  have hen : p.renderingEnabled = false := by rw [Ppu.renderingEnabled, Ppu.bgOn, hbg, Ppu.sprOn, hspr, Bool.false_or]
  have hstages : dotStages devs vd = pixelStage p.scanline p.dot false vd := by
    rw [dotStages_of_not_renders (by rw [Video.renders, hen, Bool.and_false]), hen]
  obtain ⟨hbus, hflags⟩ := ppuDot_stages devs vd
  rw [hstages] at hbus hflags
  refine ⟨hbus.trans (pixelStage_bus _ _ _ vd), ?_, fun ⟨hl, h1, h2⟩ => ?_, fun hhidden => ?_⟩
  · have hpixel := pixelStage_frame p.scanline p.dot false vd
    unfold FlagFrame at hflags
    rw [hpixel] at hflags
    show q = _
    rw [show q = _ from hflags]
  · rw [pixelStage_of_visible hl h1 h2] at hflags
    exact (congrArg Ppu.framebuffer hflags :)
  · rw [pixelStage_of_hidden hhidden] at hflags
    exact (congrArg Ppu.framebuffer hflags :)

end Sys2Proof.Machine
end

section
/-! PROOFS. The status flags through a dot (R1400, R1401, R1421, R1430): who sets, clears and keeps them. -/

namespace Sys2Proof.Machine

/-! ## The flags of a dot are those of its stages (R1400, R1401) -/

/-- After a dot the status flags are those of its stages after `flag_ops`. -/
theorem ppuDot_flags (devs : List Device) (vd : Video) :
    let x := (dotStages devs vd).ppu.flagOps vd.ppu.scanline vd.ppu.dot
    (ppuDot devs vd).ppu.vbl = x.vbl ∧ (ppuDot devs vd).ppu.vblSuppress = x.vblSuppress ∧
      (ppuDot devs vd).ppu.spr0Hit = x.spr0Hit ∧ (ppuDot devs vd).ppu.sprOverflow = x.sprOverflow := by
  intro x
  have h := ppuDot_ppu devs vd
  rw [advancePosition_frame] at h
  exact ⟨(congrArg Ppu.vbl h :), (congrArg Ppu.vblSuppress h :), (congrArg Ppu.spr0Hit h :),
    (congrArg Ppu.sprOverflow h :)⟩

theorem dotStages_vbl (devs : List Device) (vd : Video) : (dotStages devs vd).ppu.vbl = vd.ppu.vbl :=
  (congrArg Ppu.vbl (dotStages_frame devs vd) :)

theorem dotStages_vblSuppress (devs : List Device) (vd : Video) :
    (dotStages devs vd).ppu.vblSuppress = vd.ppu.vblSuppress :=
  (congrArg Ppu.vblSuppress (dotStages_frame devs vd) :)

/-! ## Sprite-0 hit (R1430) -/

/-- The pixel of a rendering dot stands: the later stages do not draw. -/
theorem dotStages_drawn {vd : Video} (h : vd.renders = true) (devs : List Device) :
    (dotStages devs vd).ppu.framebuffer = (drawnDot vd).ppu.framebuffer ∧
      (dotStages devs vd).ppu.spr0Hit = (drawnDot vd).ppu.spr0Hit := by
  have hsprite := spriteOps_frame vd.ppu.scanline vd.ppu.dot devs (beforeSprites devs vd)
  have htile := bgFetch_frame vd.ppu.dot devs (drawnDot vd)
  rw [dotStages_of_renders h]
  exact ⟨(congrArg Ppu.framebuffer hsprite :).trans (congrArg Ppu.framebuffer htile :),
    (congrArg Ppu.spr0Hit hsprite :).trans (congrArg Ppu.spr0Hit htile :)⟩

theorem isRenderLine_iff (l : Nat) : isRenderLine l = true ↔ l ≤ 239 ∨ l = 261 := by
  simp [isRenderLine]

theorem spriteZeroHit_iff (p : Ppu) (col : Nat) (b : BitVec 2) : p.spriteZeroHit col b = true ↔
    p.spr0Line = true ∧ 0 < p.sprCountLine ∧ p.bgOn = true ∧ p.sprOn = true ∧ col ≠ 255 ∧
      (8 ≤ col ∨ p.sprLeft = true) ∧ (p.unitAt 0).pixel col ≠ 0 ∧ b ≠ 0 := by
  simp [Ppu.spriteZeroHit, and_assoc]

theorem renders_of_visible {vd : Video} (hl : vd.ppu.scanline ≤ 239) (hen : vd.ppu.renderingEnabled = true) :
    vd.renders = true := Bool.and_eq_true_iff.mpr ⟨(isRenderLine_iff _).mpr (.inl hl), hen⟩

theorem spriteZeroHit_shift (d col : Nat) (b : BitVec 2) (p : Ppu) :
    (p.bgShiftAndReload d).spriteZeroHit col b = p.spriteZeroHit col b :=
  (congrArg (fun q => q.spriteZeroHit col b) (bgShiftAndReload_frame d p) :)

/-- `sprite_zero_hit` of a rendering dot, with the background pixel of the shifters after its shift. -/
theorem dotStages_spr0Hit_of_visible {vd : Video} (hl : vd.ppu.scanline ≤ 239) (h1 : 1 ≤ vd.ppu.dot)
    (h2 : vd.ppu.dot ≤ 256) (hen : vd.ppu.renderingEnabled = true) (devs : List Device) :
    (dotStages devs vd).ppu.spr0Hit = (vd.ppu.spr0Hit || vd.ppu.spriteZeroHit (vd.ppu.dot - 1)
      ((vd.ppu.bgShiftAndReload vd.ppu.dot).bgPixel (vd.ppu.dot - 1)).1) := by
  have hold : (vd.ppu.bgShiftAndReload vd.ppu.dot).spr0Hit = vd.ppu.spr0Hit :=
    (congrArg Ppu.spr0Hit (bgShiftAndReload_frame vd.ppu.dot vd.ppu) :)
  rw [(dotStages_drawn (renders_of_visible hl hen) devs).2, drawnDot, pixelStage_of_visible hl h1 h2, ← hold,
    ← spriteZeroHit_shift vd.ppu.dot]
  rfl

/-- Where no pixel is rendered the stages keep the sprite-0 flag. -/
theorem dotStages_spr0Hit_elsewhere {vd : Video} (h : ¬ (vd.ppu.scanline ≤ 239 ∧ 1 ≤ vd.ppu.dot ∧ vd.ppu.dot ≤ 256 ∧
    vd.ppu.renderingEnabled = true)) (devs : List Device) : (dotStages devs vd).ppu.spr0Hit = vd.ppu.spr0Hit := by
  have hhidden (hen : vd.ppu.renderingEnabled = true) :
      ¬ (vd.ppu.scanline ≤ 239 ∧ 1 ≤ vd.ppu.dot ∧ vd.ppu.dot ≤ 256) := fun ⟨hl, h1, h2⟩ => h ⟨hl, h1, h2, hen⟩
  cases hr : vd.renders with
  | true =>
    have hen : vd.ppu.renderingEnabled = true := (Bool.and_eq_true_iff.mp hr).2
    rw [(dotStages_drawn hr devs).2, drawnDot, pixelStage_of_hidden (hhidden hen)]
    exact (congrArg Ppu.spr0Hit (bgShiftAndReload_frame vd.ppu.dot vd.ppu) :)
  | false =>
    rw [dotStages_of_not_renders hr]
    cases hen : vd.ppu.renderingEnabled with
    | true => rw [pixelStage_of_hidden (hhidden hen)]
    | false =>
      unfold pixelStage
      split <;> rfl

/-! ## Sprite overflow (R1421) -/

theorem nextEntry_sprOverflow (p : Ppu) : p.nextEntry.sprOverflow = p.sprOverflow := by
  unfold Ppu.nextEntry
  split
  · rfl
  · split <;> rfl

/-- Only the overflow state raises the flag (R1421). -/
theorem evalStep_sprOverflow {l : Nat} {p : Ppu} (h : p.evalPhase ≠ .overflow) :
    (p.evalStep l).sprOverflow = p.sprOverflow := by
  unfold Ppu.evalStep
  split
  · unfold Ppu.evalScan
    dsimp only
    split
    · rfl
    · exact nextEntry_sprOverflow _
  · unfold Ppu.evalCopy
    dsimp only
    split
    · rfl
    · exact nextEntry_sprOverflow _
  · exact absurd ‹_› h
  · rfl

theorem evalStep_sprOverflow_of_set {l : Nat} {p : Ppu} (h : p.sprOverflow = true) :
    (p.evalStep l).sprOverflow = true := by
  by_cases hphase : p.evalPhase = .overflow
  · rw [Ppu.evalStep, hphase]
    dsimp only
    unfold Ppu.evalOverflow
    split
    · rfl
    · exact h
  · exact (evalStep_sprOverflow hphase).trans h

/-! ## The dots of the evaluation (R1420) -/

theorem spriteEval_start {l : Nat} (hl : l ≤ 239) (p : Ppu) : p.spriteEval l 1 =
    { p with evalN := 0, evalM := 0, evalFound := 0, evalPhase := .scan, spr0Next := false } := if_pos hl

theorem spriteEval_clear {l d : Nat} (hl : l ≤ 239) (h1 : 2 ≤ d) (h2 : d ≤ 64) (heven : d % 2 = 0) (p : Ppu) :
    p.spriteEval l d = p.setOam2 (d / 2 - 1) 0xFF := by
  have hne : d ≠ 1 := by omega
  simp [Ppu.spriteEval, hl, h1, h2, heven, hne]

theorem spriteEval_step {l d : Nat} (hl : l ≤ 239) (h1 : 66 ≤ d) (h2 : d ≤ 256) (heven : d % 2 = 0) (p : Ppu) :
    p.spriteEval l d = p.evalStep l := by
  have hne : d ≠ 1 := by omega
  have hclear : ¬ d ≤ 64 := by omega
  simp [Ppu.spriteEval, hl, h1, h2, heven, hne, hclear]

theorem spriteEval_latch {l : Nat} (hl : l ≤ 239) (p : Ppu) :
    p.spriteEval l 257 = { p with sprCountLine := p.evalFound, spr0Line := p.spr0Next } := if_pos hl

theorem spriteEval_prerender (p : Ppu) :
    p.spriteEval 261 257 = { p with sprCountLine := 0, spr0Line := false } := rfl

/-- The dots at which evaluation does nothing. -/
theorem spriteEval_idle {l d : Nat} (hd : d ≠ 257) (h : l ≤ 239 → d ≠ 1 ∧ ¬ (2 ≤ d ∧ d ≤ 256 ∧ d % 2 = 0)) (p : Ppu) :
    p.spriteEval l d = p := by
  unfold Ppu.spriteEval
  by_cases hl : l ≤ 239
  · obtain ⟨h1, heven⟩ := h hl
    rw [if_pos hl, if_neg (by simpa using h1), if_neg (by simp; omega), if_neg (by simp; omega),
      if_neg (by simpa using hd)]
  · rw [if_neg hl, if_neg (by simp [hd])]

/-! ## The flags through a whole dot -/

theorem spriteEval_sprOverflow_elsewhere {l d : Nat} (h : ¬ (l ≤ 239 ∧ 66 ≤ d ∧ d ≤ 256 ∧ d % 2 = 0)) (p : Ppu) :
    (p.spriteEval l d).sprOverflow = p.sprOverflow := by
  unfold Ppu.spriteEval
  split
  · split
    · rfl
    · split
      · rfl
      · rw [if_neg (by simp; omega)]
        split <;> rfl
  · split <;> rfl

/-- What a dot's stages do to `spr_overflow`: without rendering nothing, else what the evaluation does. -/
theorem dotStages_sprOverflow (devs : List Device) (vd : Video) : (dotStages devs vd).ppu.sprOverflow =
    if vd.renders then ((beforeSprites devs vd).ppu.spriteEval vd.ppu.scanline vd.ppu.dot).sprOverflow
    else vd.ppu.sprOverflow := by
  cases h : vd.renders with
  | true =>
    rw [dotStages_of_renders h]
    exact (congrArg Ppu.sprOverflow (spriteOps_eval _ _ devs (beforeSprites devs vd)) :)
  | false =>
    rw [dotStages_of_not_renders h]
    exact (congrArg Ppu.sprOverflow (pixelStage_frame _ _ _ vd) :)

theorem beforeSprites_sprOverflow (devs : List Device) (vd : Video) :
    (beforeSprites devs vd).ppu.sprOverflow = vd.ppu.sprOverflow :=
  (congrArg Ppu.sprOverflow (beforeSprites_frame devs vd) :)

theorem beforeSprites_evalPhase (devs : List Device) (vd : Video) :
    (beforeSprites devs vd).ppu.evalPhase = vd.ppu.evalPhase :=
  (congrArg Ppu.evalPhase (beforeSprites_frame devs vd) :)

theorem dotStages_sprOverflow_of_set {vd : Video} (h : vd.ppu.sprOverflow = true) (devs : List Device) :
    (dotStages devs vd).ppu.sprOverflow = true := by
  have hbefore := (beforeSprites_sprOverflow devs vd).trans h
  rw [dotStages_sprOverflow]
  split
  · by_cases hstep : vd.ppu.scanline ≤ 239 ∧ 66 ≤ vd.ppu.dot ∧ vd.ppu.dot ≤ 256 ∧ vd.ppu.dot % 2 = 0
    · obtain ⟨hl, h1, h2, heven⟩ := hstep
      rw [spriteEval_step hl h1 h2 heven]
      exact evalStep_sprOverflow_of_set hbefore
    · rw [spriteEval_sprOverflow_elsewhere hstep, hbefore]
  · exact h

/-- A raise of `spr_overflow` is an evaluation step in the overflow state (R1421). -/
theorem dotStages_sprOverflow_of_raise {devs : List Device} {vd : Video} (h : vd.ppu.sprOverflow = false)
    (hq : (dotStages devs vd).ppu.sprOverflow = true) : vd.ppu.scanline ≤ 239 ∧ 66 ≤ vd.ppu.dot ∧ vd.ppu.dot ≤ 256 ∧
      vd.ppu.dot % 2 = 0 ∧ vd.ppu.renderingEnabled = true ∧ vd.ppu.evalPhase = .overflow := by
  have hbefore := (beforeSprites_sprOverflow devs vd).trans h
  rw [dotStages_sprOverflow] at hq
  split at hq
  · rename_i hrender
    by_cases hstep : vd.ppu.scanline ≤ 239 ∧ 66 ≤ vd.ppu.dot ∧ vd.ppu.dot ≤ 256 ∧ vd.ppu.dot % 2 = 0
    · obtain ⟨hl, h1, h2, heven⟩ := hstep
      refine ⟨hl, h1, h2, heven, (Bool.and_eq_true_iff.mp hrender).2, ?_⟩
      by_contra hphase
      rw [spriteEval_step hl h1 h2 heven, evalStep_sprOverflow (by rwa [beforeSprites_evalPhase]), hbefore] at hq
      cases hq
    · rw [spriteEval_sprOverflow_elsewhere hstep, hbefore] at hq
      cases hq
  · exact absurd (h.symm.trans hq) Bool.false_ne_true

/-- A raise of `spr0_hit` is a hit of the pixel of the dot (R1430). -/
theorem dotStages_spr0Hit_of_raise {devs : List Device} {vd : Video} (h : vd.ppu.spr0Hit = false)
    (hq : (dotStages devs vd).ppu.spr0Hit = true) : vd.ppu.scanline ≤ 239 ∧ 1 ≤ vd.ppu.dot ∧ vd.ppu.dot ≤ 256 ∧
      vd.ppu.spriteZeroHit (vd.ppu.dot - 1)
        ((vd.ppu.bgShiftAndReload vd.ppu.dot).bgPixel (vd.ppu.dot - 1)).1 = true := by
  by_cases hvisible : vd.ppu.scanline ≤ 239 ∧ 1 ≤ vd.ppu.dot ∧ vd.ppu.dot ≤ 256 ∧ vd.ppu.renderingEnabled = true
  · obtain ⟨hl, h1, h2, hen⟩ := hvisible
    rw [dotStages_spr0Hit_of_visible hl h1 h2 hen, h, Bool.false_or] at hq
    exact ⟨hl, h1, h2, hq⟩
  · rw [dotStages_spr0Hit_elsewhere hvisible, h] at hq
    cases hq

theorem dotStages_spr0Hit_of_set {vd : Video} (h : vd.ppu.spr0Hit = true) (devs : List Device) :
    (dotStages devs vd).ppu.spr0Hit = true := by
  by_cases hvisible : vd.ppu.scanline ≤ 239 ∧ 1 ≤ vd.ppu.dot ∧ vd.ppu.dot ≤ 256 ∧ vd.ppu.renderingEnabled = true
  · obtain ⟨hl, h1, h2, hen⟩ := hvisible
    rw [dotStages_spr0Hit_of_visible hl h1 h2 hen, h, Bool.true_or]
  · rw [dotStages_spr0Hit_elsewhere hvisible, h]

/-- Outside dot 261/1 the sprite flags are those of the stages. -/
theorem ppuDot_sprite_flags (devs : List Device) {vd : Video} (h : ¬ (vd.ppu.scanline = 261 ∧ vd.ppu.dot = 1)) :
    (ppuDot devs vd).ppu.spr0Hit = (dotStages devs vd).ppu.spr0Hit ∧
      (ppuDot devs vd).ppu.sprOverflow = (dotStages devs vd).ppu.sprOverflow := by
  obtain ⟨-, -, hhit, hover⟩ := ppuDot_flags devs vd
  rw [hhit, hover]
  by_cases hvblank : vd.ppu.scanline = 241 ∧ vd.ppu.dot = 1
  · rw [hvblank.1, hvblank.2, flagOps_at_vblank]
    exact ⟨rfl, rfl⟩
  · rw [flagOps_elsewhere (by omega)]
    exact ⟨rfl, rfl⟩

/-- A sprite flag that is 1 after a dot is 1 after its stages. -/
theorem ppuDot_sprite_flags_le (devs : List Device) (vd : Video) :
    ((ppuDot devs vd).ppu.spr0Hit = true → (dotStages devs vd).ppu.spr0Hit = true) ∧
      ((ppuDot devs vd).ppu.sprOverflow = true → (dotStages devs vd).ppu.sprOverflow = true) := by
  by_cases h : vd.ppu.scanline = 261 ∧ vd.ppu.dot = 1
  · obtain ⟨-, -, hhit, hover⟩ := ppuDot_flags devs vd
    rw [hhit, hover, h.1, h.2, flagOps_at_prerender]
    exact ⟨fun h => absurd h Bool.false_ne_true, fun h => absurd h Bool.false_ne_true⟩
  · obtain ⟨hhit, hover⟩ := ppuDot_sprite_flags devs h
    exact ⟨hhit.symm.trans, hover.symm.trans⟩

/-- Settles O51: `flag_ops` at its two dots, and the stages that raise the sprite flags. -/
theorem statusFlagsChangeAtTheirDots : Obligations.StatusFlagsChangeAtTheirDots := by
  intro devs vd p q
  obtain ⟨hvbl, hsup, hhit, hover⟩ := ppuDot_flags devs vd
  refine ⟨fun ⟨hl, hd⟩ => ?_, fun ⟨hl, hd⟩ => ?_, fun h => ?_, fun h => ?_, fun h0 h1 => ?_, fun h0 h1 => ?_⟩
  · rw [hvbl, hsup, hl, hd, flagOps_at_vblank, ← dotStages_vbl devs vd, ← dotStages_vblSuppress devs vd]
    exact ⟨rfl, rfl⟩
  · rw [hvbl, hsup, hhit, hover, hl, hd, flagOps_at_prerender, ← dotStages_vblSuppress devs vd]
    exact ⟨rfl, rfl, rfl, rfl⟩
  · rw [hvbl, hsup, flagOps_elsewhere h, dotStages_vbl, dotStages_vblSuppress]
    exact ⟨rfl, rfl⟩
  · obtain ⟨hhit', hover'⟩ := ppuDot_sprite_flags devs h
    exact ⟨fun hset => hhit'.trans (dotStages_spr0Hit_of_set hset devs),
      fun hset => hover'.trans (dotStages_sprOverflow_of_set hset devs)⟩
  · obtain ⟨hl, hd, hlast, hraise⟩ := dotStages_spr0Hit_of_raise h0 ((ppuDot_sprite_flags_le devs vd).1 h1)
    obtain ⟨hzero, hcount, hbg, hspr, hcol, -, hunit, hpixel⟩ := (spriteZeroHit_iff _ _ _).mp hraise
    exact ⟨hl, hd, show vd.ppu.dot ≤ 255 by omega, hbg, hspr, hzero, hcount, hunit, hpixel⟩
  · exact dotStages_sprOverflow_of_raise h0 ((ppuDot_sprite_flags_le devs vd).2 h1)

end Sys2Proof.Machine
end

section
/-! PROOFS. The scroll registers field by field (R134): a `v` as fine Y, nametable, coarse Y and coarse X, and the two
increments (R1330, R1331) on these fields. -/

namespace Sys2Proof.Machine

/-! ## The fields of a scroll register (R134) -/

/-- The scroll register with fine Y `f`, nametable bits `n`, coarse Y `y` and coarse X `x`. -/
def scrollWord (f : BitVec 3) (n : BitVec 2) (y x : BitVec 5) : BitVec 15 := f ++ n ++ y ++ x

theorem toNat_append_eq {m n : Nat} (a : BitVec m) (b : BitVec n) : (a ++ b).toNat = 2 ^ n * a.toNat + b.toNat := by
  rw [BitVec.toNat_append, ← Nat.shiftLeft_add_eq_or_of_lt b.isLt, Nat.shiftLeft_eq, Nat.mul_comm]

theorem scrollWord_toNat (f : BitVec 3) (n : BitVec 2) (y x : BitVec 5) :
    (scrollWord f n y x).toNat = 4096 * f.toNat + 1024 * n.toNat + 32 * y.toNat + x.toNat := by
  simp only [scrollWord, toNat_append_eq]
  omega

theorem fineY_toNat (v : BitVec 15) : (fineY v).toNat = v.toNat / 4096 := by
  rw [fineY, BitVec.extractLsb'_toNat, Nat.shiftRight_eq_div_pow]
  omega

theorem coarseY_toNat (v : BitVec 15) : (coarseY v).toNat = v.toNat / 32 % 32 := by
  rw [coarseY, BitVec.extractLsb'_toNat, Nat.shiftRight_eq_div_pow]

theorem coarseX_toNat (v : BitVec 15) : (coarseX v).toNat = v.toNat % 32 := by
  rw [coarseX, BitVec.extractLsb'_toNat, Nat.shiftRight_zero]

@[simp] theorem fineY_scrollWord (f : BitVec 3) (n : BitVec 2) (y x : BitVec 5) : fineY (scrollWord f n y x) = f := by
  refine BitVec.eq_of_toNat_eq ?_
  rw [fineY_toNat, scrollWord_toNat]
  omega

@[simp] theorem coarseY_scrollWord (f : BitVec 3) (n : BitVec 2) (y x : BitVec 5) :
    coarseY (scrollWord f n y x) = y := by
  refine BitVec.eq_of_toNat_eq ?_
  rw [coarseY_toNat, scrollWord_toNat]
  omega

@[simp] theorem coarseX_scrollWord (f : BitVec 3) (n : BitVec 2) (y x : BitVec 5) :
    coarseX (scrollWord f n y x) = x := by
  refine BitVec.eq_of_toNat_eq ?_
  rw [coarseX_toNat, scrollWord_toNat]
  omega

/-- Every scroll register is its fields. -/
theorem exists_scrollWord (v : BitVec 15) : ∃ f n y x, v = scrollWord f n y x := by
  refine ⟨fineY v, v.extractLsb' 10 2, coarseY v, coarseX v, BitVec.eq_of_toNat_eq ?_⟩
  rw [scrollWord_toNat, fineY_toNat, coarseY_toNat, coarseX_toNat, BitVec.extractLsb'_toNat,
    Nat.shiftRight_eq_div_pow]
  omega

theorem scrollWord_and (f g : BitVec 3) (n m : BitVec 2) (y z x u : BitVec 5) :
    scrollWord f n y x &&& scrollWord g m z u = scrollWord (f &&& g) (n &&& m) (y &&& z) (x &&& u) := by
  show (f ++ n ++ y ++ x &&& (g ++ m ++ z ++ u) : BitVec (3 + 2 + 5 + 5)) = _
  rw [BitVec.and_append, BitVec.and_append, BitVec.and_append]
  rfl

theorem scrollWord_xor (f g : BitVec 3) (n m : BitVec 2) (y z x u : BitVec 5) :
    scrollWord f n y x ^^^ scrollWord g m z u = scrollWord (f ^^^ g) (n ^^^ m) (y ^^^ z) (x ^^^ u) := by
  show (f ++ n ++ y ++ x ^^^ (g ++ m ++ z ++ u) : BitVec (3 + 2 + 5 + 5)) = _
  rw [BitVec.xor_append, BitVec.xor_append, BitVec.xor_append]
  rfl

theorem scrollWord_inj {f g : BitVec 3} {n m : BitVec 2} {y z x u : BitVec 5} :
    scrollWord f n y x = scrollWord g m z u ↔ f = g ∧ n = m ∧ y = z ∧ x = u := by
  constructor
  · intro h
    have htoNat := congrArg BitVec.toNat h
    simp only [scrollWord_toNat] at htoNat
    exact ⟨by bv_omega, by bv_omega, by bv_omega, by bv_omega⟩
  · rintro ⟨rfl, rfl, rfl, rfl⟩
    rfl

/-- Bit 10 is the horizontal nametable bit. -/
theorem scrollWord_flipX (f : BitVec 3) (n : BitVec 2) (y x : BitVec 5) :
    scrollWord f n y x ^^^ 0x0400 = scrollWord f (n ^^^ 1) y x := by
  rw [show (0x0400 : BitVec 15) = scrollWord 0#3 1 0#5 0#5 from rfl, scrollWord_xor, BitVec.xor_zero, BitVec.xor_zero,
    BitVec.xor_zero]

/-- Bit 11 is the vertical nametable bit. -/
theorem scrollWord_flipY (f : BitVec 3) (n : BitVec 2) (y x : BitVec 5) :
    scrollWord f n y x ^^^ 0x0800 = scrollWord f (n ^^^ 2) y x := by
  rw [show (0x0800 : BitVec 15) = scrollWord 0#3 2 0#5 0#5 from rfl, scrollWord_xor, BitVec.xor_zero, BitVec.xor_zero,
    BitVec.xor_zero]

/-! ## The coarse X increment (R1330) -/

/-- Coarse X 31 goes to 0 in the other horizontal nametable. -/
theorem coarseXIncrement_wrap (f : BitVec 3) (n : BitVec 2) (y : BitVec 5) :
    coarseXIncrement (scrollWord f n y 31) = scrollWord f (n ^^^ 1) y 0 := by
  have hclear : scrollWord f n y 31 &&& ~~~ (0x001F : BitVec 15) = scrollWord f n y 0 := by
    rw [show ~~~ (0x001F : BitVec 15) = scrollWord 7 3 31 0 from rfl, scrollWord_and, scrollWord_inj]
    refine ⟨?_, ?_, ?_, rfl⟩
    · revert f; decide
    · revert n; decide
    · revert y; decide
  rw [coarseXIncrement, coarseX_scrollWord, if_pos rfl, hclear, scrollWord_flipX]

theorem coarseXIncrement_within {x : BitVec 5} (h : x ≠ 31) (f : BitVec 3) (n : BitVec 2) (y : BitVec 5) :
    coarseXIncrement (scrollWord f n y x) = scrollWord f n y (x + 1) := by
  rw [coarseXIncrement, coarseX_scrollWord, if_neg h]
  refine BitVec.eq_of_toNat_eq ?_
  have hx : (x + 1).toNat = x.toNat + 1 := by bv_omega
  rw [BitVec.toNat_add, scrollWord_toNat, scrollWord_toNat, hx, show (1 : BitVec 15).toNat = 1 from rfl]
  omega

theorem iterate_coarseXIncrement (f : BitVec 3) (n : BitVec 2) (y : BitVec 5) {x : BitVec 5} {k : Nat}
    (h : x.toNat + k < 32) :
    Nat.iterate coarseXIncrement k (scrollWord f n y x) = scrollWord f n y (x + BitVec.ofNat 5 k) := by
  induction k with
  | zero => exact congrArg (scrollWord f n y) (BitVec.add_zero x).symm
  | succ k ih =>
    have hx : x + BitVec.ofNat 5 k ≠ 31 := by bv_omega
    rw [Function.iterate_succ_apply', ih (by omega), coarseXIncrement_within hx, BitVec.add_assoc,
      BitVec.ofNat_add]
    rfl

/-- 32 increments: up to 31, the wrap, and up to the old coarse X again. -/
theorem iterate_coarseXIncrement_row (f : BitVec 3) (n : BitVec 2) (y x : BitVec 5) :
    Nat.iterate coarseXIncrement 32 (scrollWord f n y x) = scrollWord f (n ^^^ 1) y x := by
  have hlast : x + BitVec.ofNat 5 (31 - x.toNat) = 31 := by bv_omega
  have hagain : (0 : BitVec 5) + BitVec.ofNat 5 x.toNat = x := by bv_omega
  calc Nat.iterate coarseXIncrement 32 (scrollWord f n y x)
      = Nat.iterate coarseXIncrement (x.toNat + 1 + (31 - x.toNat)) (scrollWord f n y x) := by congr 1; omega
    _ = Nat.iterate coarseXIncrement (x.toNat + 1) (scrollWord f n y 31) := by
        rw [Function.iterate_add_apply, iterate_coarseXIncrement f n y (by omega), hlast]
    _ = Nat.iterate coarseXIncrement x.toNat (scrollWord f (n ^^^ 1) y 0) := by
        rw [Function.iterate_succ_apply, coarseXIncrement_wrap]
    _ = scrollWord f (n ^^^ 1) y x := by
        rw [iterate_coarseXIncrement f (n ^^^ 1) y (x := 0) (by bv_omega), hagain]

/-! ## The Y increment (R1331) -/

theorem yIncrement_fine {f : BitVec 3} (h : f ≠ 7) (n : BitVec 2) (y x : BitVec 5) :
    yIncrement (scrollWord f n y x) = scrollWord (f + 1) n y x := by
  rw [yIncrement, fineY_scrollWord, if_pos h]
  refine BitVec.eq_of_toNat_eq ?_
  have hf : (f + 1).toNat = f.toNat + 1 := by bv_omega
  rw [BitVec.toNat_add, scrollWord_toNat, scrollWord_toNat, hf, show (0x1000 : BitVec 15).toNat = 4096 from rfl]
  omega

/-- The mask of the rules that clears fine and coarse Y. -/
theorem scrollWord_clear_rows (f : BitVec 3) (n : BitVec 2) (y x : BitVec 5) :
    scrollWord f n y x &&& ~~~ (0x73E0 : BitVec 15) = scrollWord 0 n 0 x := by
  rw [show ~~~ (0x73E0 : BitVec 15) = scrollWord 0 3 0 31 from rfl, scrollWord_and, scrollWord_inj]
  refine ⟨BitVec.and_zero, ?_, BitVec.and_zero, ?_⟩
  · revert n; decide
  · revert x; decide

/-- The last line of the last row goes to the first of the other vertical nametable. -/
theorem yIncrement_flip (n : BitVec 2) (x : BitVec 5) :
    yIncrement (scrollWord 7 n 29 x) = scrollWord 0 (n ^^^ 2) 0 x := by
  rw [yIncrement, fineY_scrollWord, if_neg (not_not_intro rfl), coarseY_scrollWord, if_pos rfl, scrollWord_clear_rows,
    scrollWord_flipY]

theorem yIncrement_silent (n : BitVec 2) (x : BitVec 5) :
    yIncrement (scrollWord 7 n 31 x) = scrollWord 0 n 0 x := by
  rw [yIncrement, fineY_scrollWord, if_neg (not_not_intro rfl), coarseY_scrollWord, if_neg (by decide), if_pos rfl,
    scrollWord_clear_rows]

theorem yIncrement_coarse {y : BitVec 5} (h29 : y ≠ 29) (h31 : y ≠ 31) (n : BitVec 2) (x : BitVec 5) :
    yIncrement (scrollWord 7 n y x) = scrollWord 0 n (y + 1) x := by
  have hclear : scrollWord 7 n y x &&& ~~~ (0x7000 : BitVec 15) = scrollWord 0 n y x := by
    rw [show ~~~ (0x7000 : BitVec 15) = scrollWord 0 3 31 31 from rfl, scrollWord_and, scrollWord_inj]
    refine ⟨rfl, ?_, ?_, ?_⟩
    · revert n; decide
    · revert y; decide
    · revert x; decide
  have hy : (y + 1).toNat = y.toNat + 1 := by bv_omega
  rw [yIncrement, fineY_scrollWord, if_neg (not_not_intro rfl), coarseY_scrollWord, if_neg h29, if_neg h31, hclear]
  refine BitVec.eq_of_toNat_eq ?_
  rw [BitVec.toNat_add, scrollWord_toNat, scrollWord_toNat, hy, show (0x0020 : BitVec 15).toNat = 32 from rfl]
  omega

/-- The scroll register at line `r` of a nametable of 30 rows of 8 lines. -/
def lineWord (n : BitVec 2) (x : BitVec 5) (r : Nat) : BitVec 15 :=
  scrollWord (BitVec.ofNat 3 r) n (BitVec.ofNat 5 (r / 8)) x

theorem yIncrement_lineWord (n : BitVec 2) (x : BitVec 5) {r : Nat} (h : r < 239) :
    yIncrement (lineWord n x r) = lineWord n x (r + 1) := by
  unfold lineWord
  by_cases hf : r % 8 = 7
  · have h7 : BitVec.ofNat 3 r = 7 := BitVec.eq_of_toNat_eq (by simpa using hf)
    have h0 : BitVec.ofNat 3 (r + 1) = 0 := BitVec.eq_of_toNat_eq (by simp; omega)
    rw [h7, h0, yIncrement_coarse (by bv_omega) (by bv_omega), show (r + 1) / 8 = r / 8 + 1 by omega, BitVec.ofNat_add]
    rfl
  · have h7 : BitVec.ofNat 3 r ≠ 7 := fun h => hf (by simpa using congrArg BitVec.toNat h)
    rw [yIncrement_fine h7, show (r + 1) / 8 = r / 8 by omega, BitVec.ofNat_add]
    rfl

theorem iterate_yIncrement (n : BitVec 2) (x : BitVec 5) {k : Nat} (h : k ≤ 239) :
    Nat.iterate yIncrement k (scrollWord 0 n 0 x) = lineWord n x k := by
  induction k with
  | zero => rfl
  | succ k ih => rw [Function.iterate_succ_apply', ih (by omega), yIncrement_lineWord n x (by omega)]

/-- 240 increments: down to the last line, and the flip. -/
theorem iterate_yIncrement_frame (n : BitVec 2) (x : BitVec 5) :
    Nat.iterate yIncrement 240 (scrollWord 0 n 0 x) = scrollWord 0 (n ^^^ 2) 0 x := by
  rw [Function.iterate_succ_apply', iterate_yIncrement n x (Nat.le_refl 239)]
  exact yIncrement_flip n x

/-! ## What the increments keep -/

/-- A coarse X increment keeps fine Y, coarse Y and the vertical nametable bit. -/
theorem coarseXIncrement_fields (f : BitVec 3) (n : BitVec 2) (y x : BitVec 5) : ∃ m u,
    coarseXIncrement (scrollWord f n y x) = scrollWord f m y u ∧ m &&& 2 = n &&& 2 := by
  by_cases h : x = 31
  · exact ⟨n ^^^ 1, 0, h ▸ coarseXIncrement_wrap f n y, by revert n; decide⟩
  · exact ⟨n, x + 1, coarseXIncrement_within h f n y, rfl⟩

/-- A Y increment keeps coarse X and the horizontal nametable bit. -/
theorem yIncrement_fields (f : BitVec 3) (n : BitVec 2) (y x : BitVec 5) : ∃ g m z,
    yIncrement (scrollWord f n y x) = scrollWord g m z x ∧ m &&& 1 = n &&& 1 := by
  by_cases h7 : f = 7
  · subst h7
    by_cases h29 : y = 29
    · exact ⟨0, n ^^^ 2, 0, h29 ▸ yIncrement_flip n x, by revert n; decide⟩
    · by_cases h31 : y = 31
      · exact ⟨0, n, 0, h31 ▸ yIncrement_silent n x, rfl⟩
      · exact ⟨0, n, y + 1, yIncrement_coarse h29 h31 n x, rfl⟩
  · exact ⟨f + 1, n, y, yIncrement_fine h7 n y x, rfl⟩

/-- Settles O49: the increments on the fields of `v`. -/
theorem scrollIncrementsWrap : Obligations.ScrollIncrementsWrap := by
  intro v
  obtain ⟨f, n, y, x, rfl⟩ := exists_scrollWord v
  have hrows : (0x73E0 : BitVec 15) = scrollWord 7 0 31 0 := rfl
  refine ⟨?_, ?_, ?_, fun h => ?_, fun h => ?_⟩
  · obtain ⟨m, u, hv, hm⟩ := coarseXIncrement_fields f n y x
    rw [hv, show (0x7BE0 : BitVec 15) = scrollWord 7 2 31 0#5 from rfl, scrollWord_and, scrollWord_and, hm,
      BitVec.and_zero, BitVec.and_zero]
  · rw [iterate_coarseXIncrement_row, scrollWord_flipX]
  · obtain ⟨g, m, z, hv, hm⟩ := yIncrement_fields f n y x
    rw [hv, show (0x041F : BitVec 15) = scrollWord 0#3 1 0#5 31 from rfl, scrollWord_and, scrollWord_and, hm,
      BitVec.and_zero, BitVec.and_zero, BitVec.and_zero, BitVec.and_zero]
  · rw [hrows, scrollWord_and, show (0 : BitVec 15) = scrollWord 0 0 0 0 from rfl, scrollWord_inj] at h
    obtain ⟨hf, -, hy, -⟩ := h
    have hf0 : f = 0 := by revert f; decide
    have hy0 : y = 0 := by revert y; decide
    rw [hf0, hy0, iterate_yIncrement_frame, scrollWord_flipY]
  · rw [hrows, scrollWord_and, scrollWord_inj] at h
    obtain ⟨hf, -, hy, -⟩ := h
    have hf7 : f = 7 := by revert f; decide
    have hy31 : y = 31 := by revert y; decide
    rw [hf7, hy31, yIncrement_silent, show (0x0C1F : BitVec 15) = ~~~ 0x73E0 from rfl, scrollWord_clear_rows]

end Sys2Proof.Machine
end

section
/-! PROOFS. The background of a rendering dot (R1302): its fetches (R1320), its shifters (R1321) and its scroll (R1330
to R1333), through the whole dot. -/

namespace Sys2Proof.Machine

/-! ## Addresses in plain arithmetic (R1320) -/

theorem ntAddr_eq (v : BitVec 15) : ntAddr v = 0x2000 + v.toNat % 4096 := by
  have hbits : 0x2000 ||| (v &&& 0x0FFF) = (2#3 ++ v.extractLsb' 0 12 : BitVec (3 + 12)) := by
    refine BitVec.eq_of_getLsbD_eq fun i hi => ?_
    simp only [BitVec.getLsbD_or, BitVec.getLsbD_and, BitVec.getLsbD_append, BitVec.getLsbD_extractLsb']
    interval_cases i <;> simp
  rw [ntAddr, hbits, toNat_append_eq, BitVec.extractLsb'_toNat, Nat.shiftRight_zero]
  rfl

theorem atAddr_eq (v : BitVec 15) : atAddr v =
    0x23C0 + 1024 * (v.toNat / 1024 % 4) + 8 * (v.toNat / 32 % 32 / 4) + v.toNat % 32 / 4 := by
  have hbits : 0x23C0 ||| (v &&& 0x0C00) ||| ((v >>> 4) &&& 0x38) ||| ((v >>> 2) &&& 0x07) =
      (2#3 ++ v.extractLsb' 10 2 ++ 15#4 ++ v.extractLsb' 7 3 ++ v.extractLsb' 2 3 : BitVec (3 + 2 + 4 + 3 + 3)) := by
    refine BitVec.eq_of_getLsbD_eq fun i hi => ?_
    simp only [BitVec.getLsbD_or, BitVec.getLsbD_and, BitVec.getLsbD_ushiftRight, BitVec.getLsbD_append,
      BitVec.getLsbD_extractLsb']
    interval_cases i <;> simp
  rw [atAddr, hbits]
  simp only [toNat_append_eq, BitVec.extractLsb'_toNat, Nat.shiftRight_eq_div_pow, BitVec.toNat_ofNat]
  omega

theorem atShift_eq (v : BitVec 15) :
    atShift v = 4 * (v.toNat / 32 % 32 / 2 % 2) + 2 * (v.toNat % 32 / 2 % 2) := by
  have hbits : ((v >>> 4) &&& 4) ||| (v &&& 2) =
      (0#12 ++ v.extractLsb' 6 1 ++ v.extractLsb' 1 1 ++ 0#1 : BitVec (12 + 1 + 1 + 1)) := by
    refine BitVec.eq_of_getLsbD_eq fun i hi => ?_
    simp only [BitVec.getLsbD_or, BitVec.getLsbD_and, BitVec.getLsbD_ushiftRight, BitVec.getLsbD_append,
      BitVec.getLsbD_extractLsb']
    interval_cases i <;> simp
  have hy : v.toNat / 32 % 32 / 2 % 2 = v.toNat / 2 ^ 6 % 2 ^ 1 := by omega
  have hx : v.toNat % 32 / 2 % 2 = v.toNat / 2 ^ 1 % 2 ^ 1 := by omega
  rw [atShift, hbits, hy, hx]
  simp only [toNat_append_eq, BitVec.extractLsb'_toNat, Nat.shiftRight_eq_div_pow, BitVec.toNat_ofNat]
  omega

theorem bgPatternAddr_eq (p : Ppu) : p.bgPatternAddr =
    (if p.ctrl.getLsbD 4 then 4096 else 0) + 16 * p.ntByte.toNat + p.v.toNat / 4096 := by
  rw [Ppu.bgPatternAddr, fineY_toNat, Nat.mul_comm]
  rfl

/-- The two bits of a byte that a shift selects. -/
theorem toNat_ushiftRight_setWidth (b : Byte) (k : Nat) : ((b >>> k).setWidth 2).toNat = b.toNat / 2 ^ k % 4 := by
  rw [BitVec.toNat_setWidth, BitVec.toNat_ushiftRight, Nat.shiftRight_eq_div_pow]

/-! ## The fetches (R1320) -/

/-- A read depends on the video side only through its bus. -/
theorem ppuRead_of_bus {vd vd' : Video} (h : vd'.bus = vd.bus) (devs : List Device) (a : Nat) :
    (ppuRead devs vd' a).1 = (ppuRead devs vd a).1 ∧ (ppuRead devs vd' a).2.bus = (ppuRead devs vd a).2.bus := by
  unfold ppuRead
  rw [h]
  exact ⟨rfl, rfl⟩

/-- The dots of the tile fetches, as a proposition. -/
theorem isTileDot_iff (d : Nat) : isTileDot d = true ↔ (1 ≤ d ∧ d ≤ 256) ∨ (321 ≤ d ∧ d ≤ 336) := by
  simp [isTileDot]

theorem bgFetch_of_tile {d phase : Nat} (h : isTileDot d = true) (hp : (d - 1) % 8 = phase) (devs : List Device)
    (vd : Video) : bgFetch d devs vd = tileFetch phase devs vd := by
  rw [bgFetch, if_pos h, hp]

theorem bgFetch_unused {d : Nat} (h : d = 338 ∨ d = 340) (devs : List Device) (vd : Video) :
    bgFetch d devs vd = fetchUnused devs vd := by
  rcases h with rfl | rfl <;> rfl

theorem tileFetch_of_even {phase : Nat} (h : phase % 2 = 0) (devs : List Device) (vd : Video) :
    tileFetch phase devs vd = vd := by
  unfold tileFetch
  split
  case h_5 => rfl
  all_goals exact absurd h (by decide)

theorem bgFetch_idle {d : Nat} (h : d % 2 = 1 ∨ d = 0 ∨ (257 ≤ d ∧ d ≤ 320)) (devs : List Device) (vd : Video) :
    bgFetch d devs vd = vd := by
  unfold bgFetch
  split
  · rename_i ht
    rw [isTileDot_iff] at ht
    exact tileFetch_of_even (by omega) devs vd
  · exact if_neg (by simp; omega)

/-! ## The fetch of a rendering dot (R1300, R1320) -/

/-- A read after the shift and the pixel of a dot is the read before them. -/
theorem ppuRead_drawnDot (devs : List Device) (vd : Video) (a : Nat) :
    (ppuRead devs (drawnDot vd) a).1 = (ppuRead devs vd a).1 ∧
      (ppuRead devs (drawnDot vd) a).2.bus = (ppuRead devs vd a).2.bus :=
  ppuRead_of_bus (drawnDot_bus vd) devs a

/-- Outside the sprite fetches the bus access of a rendering dot is its tile fetch. -/
theorem ppuDot_bus_of_tile {vd : Video} (h : vd.renders = true) (hd : ¬ (257 ≤ vd.ppu.dot ∧ vd.ppu.dot ≤ 320))
    (devs : List Device) : (ppuDot devs vd).bus = (bgFetch vd.ppu.dot devs (drawnDot vd)).bus := by
  rw [ppuDot_bus_of_renders h, spriteOps_of_no_fetch hd]
  rfl

/-- The latches after a rendering dot are those of its tile fetch. -/
theorem ppuDot_latches {vd : Video} (h : vd.renders = true) (devs : List Device) :
    let b := (bgFetch vd.ppu.dot devs (drawnDot vd)).ppu
    let q := (ppuDot devs vd).ppu
    q.ntByte = b.ntByte ∧ q.atBits = b.atBits ∧ q.ptLo = b.ptLo ∧ q.ptHi = b.ptHi := by
  have hlate := ppuDot_late h devs
  exact ⟨(congrArg Ppu.ntByte hlate :), (congrArg Ppu.atBits hlate :), (congrArg Ppu.ptLo hlate :),
    (congrArg Ppu.ptHi hlate :)⟩

theorem drawnDot_v (vd : Video) : (drawnDot vd).ppu.v = vd.ppu.v := (congrArg Ppu.v (drawnDot_frame vd) :)

theorem drawnDot_bgPatternAddr (vd : Video) : (drawnDot vd).ppu.bgPatternAddr = vd.ppu.bgPatternAddr :=
  (congrArg Ppu.bgPatternAddr (drawnDot_frame vd) :)

section Tile
variable {vd : Video} (h : vd.renders = true) (ht : isTileDot vd.ppu.dot = true) (devs : List Device)
include h ht

theorem ppuDot_bus_of_phase {phase : Nat} (hp : (vd.ppu.dot - 1) % 8 = phase) :
    (ppuDot devs vd).bus = (tileFetch phase devs (drawnDot vd)).bus := by
  have hd : ¬ (257 ≤ vd.ppu.dot ∧ vd.ppu.dot ≤ 320) := by have := (isTileDot_iff _).mp ht; omega
  rw [ppuDot_bus_of_tile h hd, bgFetch_of_tile ht hp]

/-- The nametable byte, at the 2nd dot of a tile. -/
theorem ppuDot_nametable (hd : vd.ppu.dot % 8 = 2) :
    (ppuDot devs vd).bus = (ppuRead devs vd (ntAddr vd.ppu.v)).2.bus ∧
      (ppuDot devs vd).ppu.ntByte = (ppuRead devs vd (ntAddr vd.ppu.v)).1 := by
  have hp : (vd.ppu.dot - 1) % 8 = 1 := by omega
  obtain ⟨hbyte, hbus⟩ := ppuRead_drawnDot devs vd (ntAddr vd.ppu.v)
  obtain ⟨hlatch, -, -, -⟩ := ppuDot_latches h devs
  rw [ppuDot_bus_of_phase h ht devs hp, hlatch, bgFetch_of_tile ht hp, ← hbyte, ← hbus,
    ← drawnDot_v vd]
  exact ⟨rfl, rfl⟩

/-- The palette bits of the tile, at the 4th dot. -/
theorem ppuDot_atBits (hd : vd.ppu.dot % 8 = 4) :
    (ppuDot devs vd).bus = (ppuRead devs vd (atAddr vd.ppu.v)).2.bus ∧ (ppuDot devs vd).ppu.atBits =
      ((ppuRead devs vd (atAddr vd.ppu.v)).1 >>> atShift vd.ppu.v).setWidth 2 := by
  have hp : (vd.ppu.dot - 1) % 8 = 3 := by omega
  obtain ⟨hbyte, hbus⟩ := ppuRead_drawnDot devs vd (atAddr vd.ppu.v)
  obtain ⟨-, hlatch, -, -⟩ := ppuDot_latches h devs
  rw [ppuDot_bus_of_phase h ht devs hp, hlatch, bgFetch_of_tile ht hp, ← hbyte, ← hbus,
    ← drawnDot_v vd]
  exact ⟨rfl, rfl⟩

/-- The low pattern byte, at the 6th dot of a tile. -/
theorem ppuDot_patternLow (hd : vd.ppu.dot % 8 = 6) :
    (ppuDot devs vd).bus = (ppuRead devs vd vd.ppu.bgPatternAddr).2.bus ∧
      (ppuDot devs vd).ppu.ptLo = (ppuRead devs vd vd.ppu.bgPatternAddr).1 := by
  have hp : (vd.ppu.dot - 1) % 8 = 5 := by omega
  obtain ⟨hbyte, hbus⟩ := ppuRead_drawnDot devs vd vd.ppu.bgPatternAddr
  obtain ⟨-, -, hlatch, -⟩ := ppuDot_latches h devs
  rw [ppuDot_bus_of_phase h ht devs hp, hlatch, bgFetch_of_tile ht hp, ← hbyte, ← hbus,
    ← drawnDot_bgPatternAddr vd]
  exact ⟨rfl, rfl⟩

/-- The high pattern byte, at the 8th dot of a tile. -/
theorem ppuDot_patternHigh (hd : vd.ppu.dot % 8 = 0) :
    (ppuDot devs vd).bus = (ppuRead devs vd (vd.ppu.bgPatternAddr + 8)).2.bus ∧
      (ppuDot devs vd).ppu.ptHi = (ppuRead devs vd (vd.ppu.bgPatternAddr + 8)).1 := by
  have hp : (vd.ppu.dot - 1) % 8 = 7 := by have := (isTileDot_iff _).mp ht; omega
  obtain ⟨hbyte, hbus⟩ := ppuRead_drawnDot devs vd (vd.ppu.bgPatternAddr + 8)
  obtain ⟨-, -, -, hlatch⟩ := ppuDot_latches h devs
  rw [ppuDot_bus_of_phase h ht devs hp, hlatch, bgFetch_of_tile ht hp, ← hbyte, ← hbus,
    ← drawnDot_bgPatternAddr vd]
  exact ⟨rfl, rfl⟩

end Tile

/-- The unused nametable fetches of dots 338 and 340. -/
theorem ppuDot_bus_unused {vd : Video} (h : vd.renders = true) (hd : vd.ppu.dot = 338 ∨ vd.ppu.dot = 340)
    (devs : List Device) : (ppuDot devs vd).bus = (ppuRead devs vd (ntAddr vd.ppu.v)).2.bus := by
  rw [ppuDot_bus_of_tile h (by omega), bgFetch_unused hd, ← (ppuRead_drawnDot devs vd (ntAddr vd.ppu.v)).2,
    ← drawnDot_v vd]
  rfl

theorem spriteFetch_idle {o : Nat} (h : o % 2 = 0) (l i : Nat) (devs : List Device) (vd : Video) :
    spriteFetch l i o devs vd = vd := by
  unfold spriteFetch
  split
  case h_5 => rfl
  all_goals exact absurd h (by decide)

/-- No odd dot reads, and neither does dot 0. -/
theorem ppuDot_bus_idle {vd : Video} (h : vd.renders = true) (hd : vd.ppu.dot % 2 = 1 ∨ vd.ppu.dot = 0)
    (devs : List Device) : (ppuDot devs vd).bus = vd.bus := by
  have hbefore : (beforeSprites devs vd).bus = vd.bus := by
    rw [beforeSprites, Video.mapPpu_bus, bgFetch_idle (by omega), drawnDot_bus]
  rw [ppuDot_bus_of_renders h]
  by_cases hs : 257 ≤ vd.ppu.dot ∧ vd.ppu.dot ≤ 320
  · rw [spriteOps_of_fetch hs.1 hs.2, spriteFetch_idle (by omega)]
    exact hbefore
  · rw [spriteOps_of_no_fetch hs]
    exact hbefore

/-- Each latch is kept but at its own phase. -/
theorem tileFetch_keeps (phase : Nat) (devs : List Device) (vd : Video) :
    (phase ≠ 1 → (tileFetch phase devs vd).ppu.ntByte = vd.ppu.ntByte) ∧
    (phase ≠ 3 → (tileFetch phase devs vd).ppu.atBits = vd.ppu.atBits) ∧
    (phase ≠ 5 → (tileFetch phase devs vd).ppu.ptLo = vd.ppu.ptLo) ∧
    (phase ≠ 7 → (tileFetch phase devs vd).ppu.ptHi = vd.ppu.ptHi) := by
  unfold tileFetch
  split
  · exact ⟨fun h => absurd rfl h, fun _ => rfl, fun _ => rfl, fun _ => rfl⟩
  · exact ⟨fun _ => rfl, fun h => absurd rfl h, fun _ => rfl, fun _ => rfl⟩
  · exact ⟨fun _ => rfl, fun _ => rfl, fun h => absurd rfl h, fun _ => rfl⟩
  · exact ⟨fun _ => rfl, fun _ => rfl, fun _ => rfl, fun h => absurd rfl h⟩
  · exact ⟨fun _ => rfl, fun _ => rfl, fun _ => rfl, fun _ => rfl⟩

theorem bgFetch_keeps (d : Nat) (devs : List Device) (vd : Video) :
    (¬ (isTileDot d = true ∧ d % 8 = 2) → (bgFetch d devs vd).ppu.ntByte = vd.ppu.ntByte) ∧
    (¬ (isTileDot d = true ∧ d % 8 = 4) → (bgFetch d devs vd).ppu.atBits = vd.ppu.atBits) ∧
    (¬ (isTileDot d = true ∧ d % 8 = 6) → (bgFetch d devs vd).ppu.ptLo = vd.ppu.ptLo) ∧
    (¬ (isTileDot d = true ∧ d % 8 = 0) → (bgFetch d devs vd).ppu.ptHi = vd.ppu.ptHi) := by
  by_cases ht : isTileDot d = true
  · obtain ⟨hnt, hat, hlo, hhi⟩ := tileFetch_keeps ((d - 1) % 8) devs vd
    have hpos : 1 ≤ d := by have := (isTileDot_iff d).mp ht; omega
    rw [bgFetch_of_tile ht rfl]
    exact ⟨fun h => hnt fun hp => h ⟨ht, by omega⟩, fun h => hat fun hp => h ⟨ht, by omega⟩,
      fun h => hlo fun hp => h ⟨ht, by omega⟩, fun h => hhi fun hp => h ⟨ht, by omega⟩⟩
  · have hkeep : (bgFetch d devs vd).ppu = vd.ppu := by
      rw [bgFetch, if_neg ht]
      split <;> rfl
    rw [hkeep]
    exact ⟨fun _ => rfl, fun _ => rfl, fun _ => rfl, fun _ => rfl⟩

/-! ## The shifters (R1321) -/

theorem shiftLeft_one_toNat (r : BitVec 16) : (r <<< 1).toNat = 2 * r.toNat % 65536 := by
  rw [BitVec.toNat_shiftLeft, Nat.shiftLeft_eq, Nat.mul_comm]

theorem reloadLow_toNat (r : BitVec 16) (b : Byte) : (reloadLow r b).toNat = r.toNat / 256 * 256 + b.toNat := by
  have hbits : (r &&& 0xFF00) ||| b.setWidth 16 = (r.extractLsb' 8 8 ++ b : BitVec (8 + 8)) := by
    refine BitVec.eq_of_getLsbD_eq fun i hi => ?_
    simp only [BitVec.getLsbD_or, BitVec.getLsbD_and, BitVec.getLsbD_setWidth, BitVec.getLsbD_append,
      BitVec.getLsbD_extractLsb']
    interval_cases i <;> simp
  rw [reloadLow, hbits, toNat_append_eq, BitVec.extractLsb'_toNat, Nat.shiftRight_eq_div_pow]
  omega

/-- One shifter over a dot: shifted, and then reloaded from the byte of its tile. -/
def pipeStep (d : Nat) (r : BitVec 16) (b : Byte) : BitVec 16 :=
  let s := if isShiftDot d then r <<< 1 else r
  if isReloadDot d then reloadLow s b else s

theorem bgShiftAndReload_eq (d : Nat) (p : Ppu) : p.bgShiftAndReload d =
    { p with
      bgLo := pipeStep d p.bgLo p.ptLo
      bgHi := pipeStep d p.bgHi p.ptHi
      atLo := pipeStep d p.atLo (attrByte (p.atBits.getLsbD 0))
      atHi := pipeStep d p.atHi (attrByte (p.atBits.getLsbD 1)) } := by
  unfold Ppu.bgShiftAndReload pipeStep
  dsimp only
  split <;> split <;> rfl

theorem pipeStep_toNat (d : Nat) (r : BitVec 16) (b : Byte) :
    let shifted (n : Nat) : Nat := if isShiftDot d then 2 * n % 65536 else n
    (pipeStep d r b).toNat =
      if isReloadDot d then shifted r.toNat / 256 * 256 + b.toNat else shifted r.toNat := by
  intro shifted
  have hshift : (if isShiftDot d then r <<< 1 else r).toNat = shifted r.toNat := by
    simp only [shifted]
    split
    · exact shiftLeft_one_toNat r
    · rfl
  unfold pipeStep
  dsimp only
  rw [← hshift]
  split
  · exact reloadLow_toNat _ b
  · rfl

/-- The shifters after a rendering dot are those after its shift. -/
theorem ppuDot_shifters {vd : Video} (h : vd.renders = true) (devs : List Device) :
    let p := vd.ppu
    let q := (ppuDot devs vd).ppu
    q.bgLo = pipeStep p.dot p.bgLo p.ptLo ∧ q.bgHi = pipeStep p.dot p.bgHi p.ptHi ∧
      q.atLo = pipeStep p.dot p.atLo (attrByte (p.atBits.getLsbD 0)) ∧
      q.atHi = pipeStep p.dot p.atHi (attrByte (p.atBits.getLsbD 1)) := by
  have hlate := ppuDot_late h devs
  have htile := bgFetch_frame vd.ppu.dot devs (drawnDot vd)
  have hpixel := pixelStage_frame vd.ppu.scanline vd.ppu.dot true (vd.mapPpu (Ppu.bgShiftAndReload vd.ppu.dot))
  rw [Video.mapPpu_ppu, bgShiftAndReload_eq] at hpixel
  exact ⟨((congrArg Ppu.bgLo hlate :).trans (congrArg Ppu.bgLo htile :)).trans (congrArg Ppu.bgLo hpixel :),
    ((congrArg Ppu.bgHi hlate :).trans (congrArg Ppu.bgHi htile :)).trans (congrArg Ppu.bgHi hpixel :),
    ((congrArg Ppu.atLo hlate :).trans (congrArg Ppu.atLo htile :)).trans (congrArg Ppu.atLo hpixel :),
    ((congrArg Ppu.atHi hlate :).trans (congrArg Ppu.atHi htile :)).trans (congrArg Ppu.atHi hpixel :)⟩

/-! ## The scroll (R1330 to R1333) -/

/-- The scroll registers after a rendering dot. -/
theorem ppuDot_scroll {vd : Video} (h : vd.renders = true) (devs : List Device) :
    let p := vd.ppu
    let q := (ppuDot devs vd).ppu
    q.v = scrolledV p.scanline p.dot p.t p.v ∧ q.t = p.t ∧ q.x = p.x ∧ q.w = p.w := by
  have hlate := ppuDot_late h devs
  have hbefore := beforeSprites_frame devs vd
  exact ⟨(congrArg Ppu.v hlate :).trans (congrArg Ppu.v hbefore :),
    (congrArg Ppu.t hlate :).trans (congrArg Ppu.t hbefore :),
    (congrArg Ppu.x hlate :).trans (congrArg Ppu.x hbefore :),
    (congrArg Ppu.w hlate :).trans (congrArg Ppu.w hbefore :)⟩

theorem isCoarseXDot_iff (d : Nat) :
    isCoarseXDot d = true ↔ (8 ≤ d ∧ d ≤ 256 ∧ d % 8 = 0) ∨ d = 328 ∨ d = 336 := by
  simp [isCoarseXDot, and_assoc, or_assoc]

theorem scrolledV_coarseX {d : Nat} (h : (8 ≤ d ∧ d < 256 ∧ d % 8 = 0) ∨ d = 328 ∨ d = 336) (l : Nat)
    (t v : BitVec 15) : scrolledV l d t v = coarseXIncrement v := by
  rw [scrolledV, if_neg (by simp; omega), if_pos ((isCoarseXDot_iff d).mpr (by omega))]

theorem scrolledV_horizontal (l : Nat) (t v : BitVec 15) : scrolledV l 257 t v = copyBits 0x041F t v := rfl

theorem scrolledV_lineEnd (l : Nat) (t v : BitVec 15) :
    scrolledV l 256 t v = yIncrement (coarseXIncrement v) := rfl

theorem scrolledV_vertical {d : Nat} (h1 : 280 ≤ d) (h2 : d ≤ 304) (t v : BitVec 15) :
    scrolledV 261 d t v = copyBits 0x7BE0 t v := by
  rw [scrolledV, if_neg (by simp; omega), if_neg (by rw [isCoarseXDot_iff]; omega), if_neg (by simp; omega),
    if_pos (by simp [h1, h2])]

theorem scrolledV_elsewhere {l d : Nat} (h : ¬ ((8 ≤ d ∧ d ≤ 256 ∧ d % 8 = 0) ∨ d = 328 ∨ d = 336 ∨ d = 257))
    (hv : ¬ (l = 261 ∧ 280 ≤ d ∧ d ≤ 304)) (t v : BitVec 15) : scrolledV l d t v = v := by
  rw [scrolledV, if_neg (by simp; omega), if_neg (by rw [isCoarseXDot_iff]; omega), if_neg (by simp; omega),
    if_neg (by simp; omega)]

/-- The horizontal copy: coarse X and bit 10 (R1332). -/
theorem copyBits_horizontal (t v : BitVec 15) :
    (copyBits 0x041F t v).extractLsb' 0 5 = t.extractLsb' 0 5 ∧ (copyBits 0x041F t v).getLsbD 10 = t.getLsbD 10 ∧
      (copyBits 0x041F t v).extractLsb' 5 5 = v.extractLsb' 5 5 ∧
      (copyBits 0x041F t v).extractLsb' 11 4 = v.extractLsb' 11 4 :=
  ⟨extractLsb'_copyBits_of_set (by decide) t v, getLsbD_copyBits _ t v 10,
    extractLsb'_copyBits_of_clear (by decide) t v, extractLsb'_copyBits_of_clear (by decide) t v⟩

/-- The vertical copy: coarse Y, fine Y and bit 11 (R1333). -/
theorem copyBits_vertical (t v : BitVec 15) :
    (copyBits 0x7BE0 t v).extractLsb' 5 5 = t.extractLsb' 5 5 ∧
      (copyBits 0x7BE0 t v).extractLsb' 11 4 = t.extractLsb' 11 4 ∧
      (copyBits 0x7BE0 t v).extractLsb' 0 5 = v.extractLsb' 0 5 ∧ (copyBits 0x7BE0 t v).getLsbD 10 = v.getLsbD 10 :=
  ⟨extractLsb'_copyBits_of_set (by decide) t v, extractLsb'_copyBits_of_set (by decide) t v,
    extractLsb'_copyBits_of_clear (by decide) t v, getLsbD_copyBits _ t v 10⟩

/-! ## The timeline of a rendering dot (R1302) -/

theorem renders_of_mask {vd : Video} (hl : vd.ppu.scanline ≤ 239 ∨ vd.ppu.scanline = 261)
    (hen : vd.ppu.mask.getLsbD 3 = true ∨ vd.ppu.mask.getLsbD 4 = true) : vd.renders = true :=
  Bool.and_eq_true_iff.mpr ⟨(isRenderLine_iff _).mpr hl, (Bool.or_eq_true _ _).mpr hen⟩

/-- Settles O53: the fetch of the dot, then the four shifters, then the scroll. -/
theorem backgroundAndScrollDots : Obligations.BackgroundAndScrollDots := by
  intro devs vd hline hdot hen p r q d cx cy nt at' row low high tile shifts reloads shifted pipe
  have h : vd.renders = true := renders_of_mask hline hen
  have htile : tile ↔ isTileDot vd.ppu.dot = true := (isTileDot_iff d).symm
  have hnt : ppuRead devs vd (ntAddr p.v) = nt := congrArg (ppuRead devs vd) (ntAddr_eq p.v)
  have hat : ppuRead devs vd (atAddr p.v) = at' := congrArg (ppuRead devs vd) (atAddr_eq p.v)
  have hlow : ppuRead devs vd p.bgPatternAddr = low := congrArg (ppuRead devs vd) (bgPatternAddr_eq p)
  have hhigh : ppuRead devs vd (p.bgPatternAddr + 8) = high :=
    congrArg (fun a => ppuRead devs vd (a + 8)) (bgPatternAddr_eq p)
  obtain ⟨hkeepNt, hkeepAt, hkeepLo, hkeepHi⟩ := bgFetch_keeps vd.ppu.dot devs (drawnDot vd)
  obtain ⟨hqNt, hqAt, hqLo, hqHi⟩ := ppuDot_latches h devs
  have hframe := drawnDot_frame vd
  refine ⟨⟨fun ⟨ht, hd⟩ => ?_, fun ⟨ht, hd⟩ => ?_, fun ⟨ht, hd⟩ => ?_, fun ⟨ht, hd⟩ => ?_, fun hd => ?_, fun hd => ?_,
    fun hd => ?_, fun hd => ?_, fun hd => ?_, fun hd => ?_⟩, ?_, ?_⟩
  · exact hnt ▸ ppuDot_nametable h (htile.mp ht) devs hd
  · obtain ⟨hbus, hbits⟩ := ppuDot_atBits h (htile.mp ht) devs hd
    rw [hat] at hbus hbits
    exact ⟨hbus, by rw [hbits, toNat_ushiftRight_setWidth, atShift_eq]⟩
  · exact hlow ▸ ppuDot_patternLow h (htile.mp ht) devs hd
  · exact hhigh ▸ ppuDot_patternHigh h (htile.mp ht) devs hd
  · exact hnt ▸ ppuDot_bus_unused h hd devs
  · exact ppuDot_bus_idle h hd devs
  · rw [htile] at hd
    exact (hqNt.trans (hkeepNt hd)).trans (congrArg Ppu.ntByte hframe :)
  · rw [htile] at hd
    exact (hqAt.trans (hkeepAt hd)).trans (congrArg Ppu.atBits hframe :)
  · rw [htile] at hd
    exact (hqLo.trans (hkeepLo hd)).trans (congrArg Ppu.ptLo hframe :)
  · rw [htile] at hd
    exact (hqHi.trans (hkeepHi hd)).trans (congrArg Ppu.ptHi hframe :)
  · have hstep (before : BitVec 16) (b : Byte) : pipe before (pipeStep d before b) b := pipeStep_toNat d before b
    obtain ⟨hbgLo, hbgHi, hatLo, hatHi⟩ := ppuDot_shifters h devs
    exact ⟨hbgLo ▸ hstep _ _, hbgHi ▸ hstep _ _, hatLo ▸ hstep _ _, hatHi ▸ hstep _ _⟩
  · obtain ⟨hv, ht, hx, hw⟩ := ppuDot_scroll h devs
    refine ⟨fun hd => ?_, fun hd => ?_, fun hd => ?_, fun ⟨hl, h1, h2⟩ => ?_, fun hd hvertical => ?_, ht, hx, hw⟩
    · rw [hv, show vd.ppu.dot = 256 from hd, scrolledV_lineEnd]
    · rw [hv, scrolledV_coarseX hd]
    · rw [hv, show vd.ppu.dot = 257 from hd, scrolledV_horizontal]
      exact copyBits_horizontal _ _
    · rw [hv, show vd.ppu.scanline = 261 from hl, scrolledV_vertical h1 h2]
      exact copyBits_vertical _ _
    · rw [hv, scrolledV_elsewhere hd hvertical]

end Sys2Proof.Machine
end

section
/-! PROOFS. The sprite fetches of dots 257 to 320 (R1422, R1423): the OAM address, the pattern addresses and the units,
through the whole dot. -/

namespace Sys2Proof.Machine

/-! ## The OAM address (R1422) -/

theorem spriteOps_oamAddr (l d : Nat) (devs : List Device) (vd : Video) : (spriteOps l d devs vd).ppu.oamAddr =
    if 257 ≤ d ∧ d ≤ 320 then 0 else vd.ppu.oamAddr := by
  split
  · rename_i h
    rw [spriteOps_of_fetch h.1 h.2]
    exact (congrArg Ppu.oamAddr (spriteFetch_frame _ _ _ devs _) :)
  · rename_i h
    rw [spriteOps_of_no_fetch h]
    exact (congrArg Ppu.oamAddr (spriteEval_frame l d vd.ppu) :)

theorem ppuDot_oamAddr (devs : List Device) (vd : Video) : (ppuDot devs vd).ppu.oamAddr =
    if vd.renders = true ∧ 257 ≤ vd.ppu.dot ∧ vd.ppu.dot ≤ 320 then 0 else vd.ppu.oamAddr := by
  have hstages : (ppuDot devs vd).ppu.oamAddr = (dotStages devs vd).ppu.oamAddr :=
    (congrArg Ppu.oamAddr (ppuDot_stages devs vd).2 :)
  rw [hstages]
  cases h : vd.renders with
  | true =>
    have hbefore : (beforeSprites devs vd).ppu.oamAddr = vd.ppu.oamAddr :=
      (congrArg Ppu.oamAddr (beforeSprites_frame devs vd) :)
    rw [dotStages_of_renders h, spriteOps_oamAddr, hbefore]
    simp only [true_and]
  | false =>
    rw [dotStages_of_not_renders h, if_neg (fun hc => Bool.false_ne_true hc.1)]
    exact (congrArg Ppu.oamAddr (pixelStage_frame _ _ _ vd) :)

/-! ## The evaluation through a dot (R1300, R1423) -/

/-- The cursor of sprite evaluation and the memory it fills (R141, R145). -/
structure EvalState where
  oam2 : Vector Byte 32
  n : Nat
  m : Nat
  found : Nat
  phase : EvalPhase
  zeroNext : Bool

def Ppu.evalState (p : Ppu) : EvalState where
  oam2 := p.oam2
  n := p.evalN
  m := p.evalM
  found := p.evalFound
  phase := p.evalPhase
  zeroNext := p.spr0Next

theorem beforeSprites_evalState (devs : List Device) (vd : Video) :
    (beforeSprites devs vd).ppu.evalState = vd.ppu.evalState :=
  (congrArg Ppu.evalState (beforeSprites_frame devs vd) :)

/-- A dot steps the evaluation when it renders, and leaves it otherwise. -/
theorem ppuDot_evalState (devs : List Device) (vd : Video) : (ppuDot devs vd).ppu.evalState =
    if vd.renders then ((beforeSprites devs vd).ppu.spriteEval vd.ppu.scanline vd.ppu.dot).evalState
    else vd.ppu.evalState := by
  have hstages : (ppuDot devs vd).ppu.evalState = (dotStages devs vd).ppu.evalState :=
    (congrArg Ppu.evalState (ppuDot_stages devs vd).2 :)
  rw [hstages]
  cases h : vd.renders with
  | true =>
    rw [dotStages_of_renders h]
    exact (congrArg Ppu.evalState (spriteOps_eval _ _ devs _) :)
  | false =>
    rw [dotStages_of_not_renders h]
    exact (congrArg Ppu.evalState (pixelStage_frame _ _ _ vd) :)

/-- Outside the dots of the evaluation proper only the latches of dot 257 can change. -/
theorem spriteEval_latches {l d : Nat} (h : l = 261 ∨ 257 ≤ d) (p : Ppu) : p.spriteEval l d =
    { p with sprCountLine := (p.spriteEval l d).sprCountLine, spr0Line := (p.spriteEval l d).spr0Line } := by
  by_cases h257 : d = 257
  · subst h257
    unfold Ppu.spriteEval
    split
    · rfl
    · split <;> rfl
  · rw [spriteEval_idle h257 (by omega)]

/-- Line 261 does not evaluate, and no line does after dot 256. -/
theorem ppuDot_evalState_kept (devs : List Device) {vd : Video} (h : vd.ppu.scanline = 261 ∨ 257 ≤ vd.ppu.dot) :
    (ppuDot devs vd).ppu.evalState = vd.ppu.evalState := by
  rw [ppuDot_evalState]
  split
  · exact (congrArg Ppu.evalState (spriteEval_latches h _) :).trans (beforeSprites_evalState devs vd)
  · rfl

/-- The count of the line and its sprite-0 mark after a rendering dot are what the evaluation leaves. -/
theorem ppuDot_lineLatches {vd : Video} (h : vd.renders = true) (devs : List Device) :
    let e := (beforeSprites devs vd).ppu.spriteEval vd.ppu.scanline vd.ppu.dot
    (ppuDot devs vd).ppu.sprCountLine = e.sprCountLine ∧ (ppuDot devs vd).ppu.spr0Line = e.spr0Line := by
  have hops := spriteOps_eval vd.ppu.scanline vd.ppu.dot devs (beforeSprites devs vd)
  have hflags := (ppuDot_stages devs vd).2
  rw [dotStages_of_renders h] at hflags
  exact ⟨(congrArg Ppu.sprCountLine hflags :).trans (congrArg Ppu.sprCountLine hops :),
    (congrArg Ppu.spr0Line hflags :).trans (congrArg Ppu.spr0Line hops :)⟩

/-! ## The addresses and the bytes of a unit (R1422) -/

theorem toNat_and_one (b : Byte) : (b &&& 1).toNat = b.toNat % 2 :=
  Nat.and_two_pow_sub_one_eq_mod b.toNat 1

theorem toNat_and_even (b : Byte) : (b &&& 0xFE).toNat = b.toNat - b.toNat % 2 := by
  have hbits : b &&& 0xFE = (b.extractLsb' 1 7 ++ 0#1 : BitVec (7 + 1)) := by
    refine BitVec.eq_of_getLsbD_eq fun i hi => ?_
    simp only [BitVec.getLsbD_and, BitVec.getLsbD_append, BitVec.getLsbD_extractLsb']
    interval_cases i <;> simp
  rw [hbits, toNat_append_eq, BitVec.extractLsb'_toNat, Nat.shiftRight_eq_div_pow, BitVec.toNat_ofNat]
  omega

/-- `spr_addr` in plain arithmetic on integers. -/
theorem sprAddr_eq (l i : Nat) (p : Ppu) :
    let tall : Bool := p.ctrl.getLsbD 5
    let table : Int := if p.ctrl.getLsbD 3 then 4096 else 0
    let tile : Int := ((p.oam2Byte (4 * i + 1)).toNat : Int)
    let line : Int := (l : Int) - ((p.oam2Byte (4 * i)).toNat : Int)
    let row : Int := if (p.oam2Byte (4 * i + 2)).getLsbD 7 then (if tall then 15 else 7) - line else line
    p.sprAddr l i =
      if p.sprCountLine ≤ i then (if tall then 0x1FF0 else table + 0x0FF0)
      else if tall then 4096 * (tile % 2) + 16 * (tile - tile % 2) + (if 8 ≤ row then 16 else 0) + row % 8
      else table + 16 * tile + row := by
  intro tall table tile line row
  have htable : ((p.sprTable : Nat) : Int) = table := by
    simp only [Ppu.sprTable, table]
    split <;> rfl
  have htall : p.spr16 = tall := rfl
  have hodd := toNat_and_one (p.oam2Byte (4 * i + 1))
  have heven := toNat_and_even (p.oam2Byte (4 * i + 1))
  unfold Ppu.sprAddr
  dsimp only
  rw [htable, htall, hodd, heven]
  by_cases hempty : p.sprCountLine ≤ i
  · rw [if_pos hempty, if_pos hempty]
  · rw [if_neg hempty, if_neg hempty]
    cases ht : tall with
    | true =>
      simp only [if_true, row, ht, line, tile]
      split <;> omega
    | false =>
      simp only [Bool.false_eq_true, if_false, row, ht, line, tile]
      split <;> omega

theorem unitPattern_eq (p : Ppu) (i : Nat) (b : Byte) : p.unitPattern i b =
    if decide (p.sprCountLine ≤ i) then 0 else if (p.oam2Byte (4 * i + 2)).getLsbD 6 then b.reverse else b := by
  simp only [Ppu.unitPattern, decide_eq_true_eq]

/-! ## The fetch of a unit (R1422) -/

theorem spriteFetch_loads {i : Nat} (hi : i < 8) (l : Nat) (devs : List Device) (vd : Video) :
    (spriteFetch l i 7 devs vd).ppu.units[i]? = some
      { lo := vd.ppu.unitPattern i vd.ppu.sprFetchLo
        hi := vd.ppu.unitPattern i (ppuRead devs vd (intAddr (vd.ppu.sprAddr l i + 8))).1
        attr := vd.ppu.oam2Byte (4 * i + 2)
        x := vd.ppu.oam2Byte (4 * i + 3) } :=
  Vector.getElem?_setIfInBounds_self_of_lt hi

theorem spriteFetch_unused {o : Nat} (h : o = 1 ∨ o = 3) (l i : Nat) (devs : List Device) (vd : Video) :
    spriteFetch l i o devs vd = fetchUnused devs vd := by
  rcases h with rfl | rfl <;> rfl

/-- The saved low byte changes at the 6th dot alone. -/
theorem spriteFetch_sprFetchLo {o : Nat} (h : o ≠ 5) (l i : Nat) (devs : List Device) (vd : Video) :
    (spriteFetch l i o devs vd).ppu.sprFetchLo = vd.ppu.sprFetchLo := by
  unfold spriteFetch
  split
  case h_3 => exact absurd rfl h
  all_goals rfl

/-- A unit changes at its own 8th dot alone. -/
theorem spriteFetch_units {i j o : Nat} (h : j ≠ i ∨ o ≠ 7) (l : Nat) (devs : List Device) (vd : Video) :
    (spriteFetch l i o devs vd).ppu.units[j]? = vd.ppu.units[j]? := by
  unfold spriteFetch
  split
  case h_4 =>
    have hij : i ≠ j := fun hc => h.elim (fun hj => hj hc.symm) (fun h7 => h7 rfl)
    exact Vector.getElem?_setIfInBounds_ne hij
  all_goals rfl

/-- A rendering dot of 257 to 320 up to its sprite fetch. -/
def beforeFetch (devs : List Device) (vd : Video) : Video :=
  (beforeSprites devs vd).mapPpu fun p => { p.spriteEval vd.ppu.scanline vd.ppu.dot with oamAddr := 0 }

/-- What a dot of 257 to 320 has changed before its sprite fetch. -/
def FetchFrame (p q : Ppu) : Prop :=
  q = { p with
    bgLo := q.bgLo
    bgHi := q.bgHi
    atLo := q.atLo
    atHi := q.atHi
    spr0Hit := q.spr0Hit
    framebuffer := q.framebuffer
    ntByte := q.ntByte
    atBits := q.atBits
    ptLo := q.ptLo
    ptHi := q.ptHi
    v := q.v
    oamAddr := q.oamAddr
    sprCountLine := q.sprCountLine
    spr0Line := q.spr0Line }

section Fetch
variable {vd : Video} (h : vd.renders = true) (h1 : 257 ≤ vd.ppu.dot) (h2 : vd.ppu.dot ≤ 320) (devs : List Device)

include h1 in
theorem beforeFetch_frame : FetchFrame vd.ppu (beforeFetch devs vd).ppu := by
  have hbefore := beforeSprites_frame devs vd
  have heval := spriteEval_latches (l := vd.ppu.scanline) (.inr h1) (beforeSprites devs vd).ppu
  unfold FetchFrame beforeFetch
  rw [Video.mapPpu_ppu, heval, hbefore]

/-- After dot 257 the evaluation has nothing left to do. -/
theorem beforeFetch_after_latch (hd : 257 < vd.ppu.dot) :
    (beforeFetch devs vd).ppu = { (beforeSprites devs vd).ppu with oamAddr := 0 } := by
  rw [beforeFetch, Video.mapPpu_ppu, spriteEval_idle (Nat.ne_of_gt hd) (by omega)]

include h1 h2 in
theorem beforeFetch_bus : (beforeFetch devs vd).bus = vd.bus := by
  rw [beforeFetch, Video.mapPpu_bus, beforeSprites, Video.mapPpu_bus, bgFetch_idle (.inr (.inr ⟨h1, h2⟩)),
    drawnDot_bus]

include h h1 h2 in
/-- The bus access and the units of such a dot are its sprite fetch. -/
theorem ppuDot_fetch :
    let f := spriteFetch vd.ppu.scanline ((vd.ppu.dot - 257) / 8) ((vd.ppu.dot - 257) % 8) devs (beforeFetch devs vd)
    (ppuDot devs vd).bus = f.bus ∧ (ppuDot devs vd).ppu.units = f.ppu.units ∧
      (ppuDot devs vd).ppu.sprFetchLo = f.ppu.sprFetchLo := by
  intro f
  have hops : dotStages devs vd = f := (dotStages_of_renders h devs).trans (spriteOps_of_fetch h1 h2 devs _)
  obtain ⟨hbus, hflags⟩ := ppuDot_stages devs vd
  rw [← hops]
  exact ⟨hbus, (congrArg Ppu.units hflags :), (congrArg Ppu.sprFetchLo hflags :)⟩

include h1 in
theorem beforeFetch_v : (beforeFetch devs vd).ppu.v = (beforeSprites devs vd).ppu.v :=
  (congrArg Ppu.v (spriteEval_latches (l := vd.ppu.scanline) (.inr h1) (beforeSprites devs vd).ppu) :)

/-- The pattern address after dot 257 is that of the state before the dot. -/
theorem beforeFetch_sprAddr (hd : 257 < vd.ppu.dot) (l i : Nat) :
    (beforeFetch devs vd).ppu.sprAddr l i = vd.ppu.sprAddr l i := by
  rw [beforeFetch_after_latch devs hd]
  exact (congrArg (fun q => q.sprAddr l i) (beforeSprites_frame devs vd) :)

/-- The bytes a unit is loaded from are those of the state before the dot. -/
theorem beforeFetch_unit (hd : 257 < vd.ppu.dot) (i : Nat) :
    let e := (beforeFetch devs vd).ppu
    e.sprFetchLo = vd.ppu.sprFetchLo ∧ e.unitPattern i = vd.ppu.unitPattern i ∧ e.oam2Byte = vd.ppu.oam2Byte := by
  have hbefore := beforeSprites_frame devs vd
  rw [beforeFetch_after_latch devs hd]
  exact ⟨(congrArg Ppu.sprFetchLo hbefore :), (congrArg (fun q => q.unitPattern i) hbefore :),
    (congrArg Ppu.oam2Byte hbefore :)⟩

include h h1 h2 in
/-- The 2nd and 4th dots of a unit: a nametable read, at the address `v` gives after the scroll of the dot. -/
theorem ppuDot_bus_of_unused (ho : (vd.ppu.dot - 257) % 8 = 1 ∨ (vd.ppu.dot - 257) % 8 = 3) :
    (ppuDot devs vd).bus = (ppuRead devs vd (ntAddr (ppuDot devs vd).ppu.v)).2.bus := by
  have hv : (ppuDot devs vd).ppu.v = (beforeFetch devs vd).ppu.v :=
    (congrArg Ppu.v (ppuDot_late h devs) :).trans (beforeFetch_v h1 devs).symm
  rw [(ppuDot_fetch h h1 h2 devs).1, spriteFetch_unused ho, hv,
    ← (ppuRead_of_bus (beforeFetch_bus h1 h2 devs) devs _).2]
  rfl

include h h1 h2 in
/-- The 6th dot of a unit: the low pattern byte. -/
theorem ppuDot_spriteLow (ho : (vd.ppu.dot - 257) % 8 = 5) :
    let low := ppuRead devs vd (intAddr (vd.ppu.sprAddr vd.ppu.scanline ((vd.ppu.dot - 257) / 8)))
    (ppuDot devs vd).bus = low.2.bus ∧ (ppuDot devs vd).ppu.sprFetchLo = low.1 := by
  intro low
  obtain ⟨hbyte, hbus⟩ := ppuRead_of_bus (beforeFetch_bus h1 h2 devs) devs
    (intAddr (vd.ppu.sprAddr vd.ppu.scanline ((vd.ppu.dot - 257) / 8)))
  obtain ⟨hfbus, -, hlo⟩ := ppuDot_fetch h h1 h2 devs
  rw [hfbus, hlo, ho, ← hbyte, ← hbus, ← beforeFetch_sprAddr devs (by omega)]
  exact ⟨rfl, rfl⟩

include h h1 h2 in
/-- The 8th dot of a unit: the high pattern byte, and the unit is loaded. -/
theorem ppuDot_spriteHigh (ho : (vd.ppu.dot - 257) % 8 = 7) :
    let i := (vd.ppu.dot - 257) / 8
    let high := ppuRead devs vd (intAddr (vd.ppu.sprAddr vd.ppu.scanline i + 8))
    (ppuDot devs vd).bus = high.2.bus ∧ (ppuDot devs vd).ppu.units[i]? =
      some { lo := vd.ppu.unitPattern i vd.ppu.sprFetchLo, hi := vd.ppu.unitPattern i high.1,
             attr := vd.ppu.oam2Byte (4 * i + 2), x := vd.ppu.oam2Byte (4 * i + 3) } := by
  intro i high
  have hd : 257 < vd.ppu.dot := by omega
  obtain ⟨hbyte, hbus⟩ := ppuRead_of_bus (beforeFetch_bus h1 h2 devs) devs
    (intAddr (vd.ppu.sprAddr vd.ppu.scanline i + 8))
  obtain ⟨hfbus, hunits, -⟩ := ppuDot_fetch h h1 h2 devs
  obtain ⟨hlo, hpattern, hoam2⟩ := beforeFetch_unit devs hd i
  rw [hfbus, hunits, ho, spriteFetch_loads (by omega), beforeFetch_sprAddr devs hd, hlo, hpattern, hoam2, hbyte]
  refine ⟨?_, rfl⟩
  rw [← hbus, ← beforeFetch_sprAddr devs hd]
  rfl

end Fetch

/-- Settles O55: the OAM address, line 261, and the fetch of the dot's unit. -/
theorem spriteFetchDots : Obligations.SpriteFetchDots := by
  refine ⟨fun devs vd => ?_, fun devs vd hl => ?_, fun devs vd hline h1 h2 hen => ?_⟩
  · rw [ppuDot_oamAddr]
    refine if_congr ?_ rfl rfl
    simp only [Video.renders, Bool.and_eq_true, decide_eq_true_eq, and_assoc]
    tauto
  · intro p q
    have hkept : q.evalState = p.evalState := ppuDot_evalState_kept devs (.inl hl)
    exact ⟨congrArg EvalState.oam2 hkept, congrArg EvalState.n hkept, congrArg EvalState.m hkept,
      congrArg EvalState.found hkept, congrArg EvalState.phase hkept, congrArg EvalState.zeroNext hkept⟩
  · intro p r q i o empty tall table tile attr line row addr pattern low high
    have h : vd.renders = true := renders_of_mask hline hen
    have haddr : p.sprAddr p.scanline i = addr := by
      rw [sprAddr_eq]
      simp only [addr, empty, decide_eq_true_eq]
      rfl
    have hpattern (b : Byte) : p.unitPattern i b = pattern b := unitPattern_eq p i b
    obtain ⟨-, hunits, hsaved⟩ := ppuDot_fetch h h1 h2 devs
    obtain ⟨hcount, hzero⟩ := ppuDot_lineLatches h devs
    have hbefore := beforeSprites_frame devs vd
    have hkeptLo : (beforeFetch devs vd).ppu.sprFetchLo = p.sprFetchLo :=
      (congrArg Ppu.sprFetchLo (beforeFetch_frame h1 devs) :)
    have hkeptUnits : (beforeFetch devs vd).ppu.units = p.units := (congrArg Ppu.units (beforeFetch_frame h1 devs) :)
    refine ⟨fun ho => ?_, fun ho => ?_, fun ho => ?_, fun ho => ?_, fun ho => ?_, fun j hj => ?_, ?_, fun hd => ?_,
      fun hd hl => ?_, fun hd hl => ?_⟩
    · have hoffset : (vd.ppu.dot - 257) % 8 % 2 = 0 := ho
      have hodd : vd.ppu.dot % 2 = 1 := by omega
      exact ppuDot_bus_idle h (.inl hodd) devs
    · rw [← ntAddr_eq]
      exact ppuDot_bus_of_unused h h1 h2 devs ho
    · have hlow : ppuRead devs vd (intAddr (p.sprAddr p.scanline i)) = low := by rw [haddr]; rfl
      exact hlow ▸ ppuDot_spriteLow h h1 h2 devs ho
    · have hhigh : ppuRead devs vd (intAddr (p.sprAddr p.scanline i + 8)) = high := by rw [haddr]; rfl
      obtain ⟨hbus, hunit⟩ := ppuDot_spriteHigh h h1 h2 devs ho
      rw [hhigh] at hbus hunit
      rw [← hpattern, ← hpattern]
      exact ⟨hbus, hunit⟩
    · rw [hsaved, spriteFetch_sprFetchLo ho, hkeptLo]
    · rw [hunits, spriteFetch_units hj, hkeptUnits]
    · exact congrArg EvalState.oam2 (ppuDot_evalState_kept devs (.inr h1))
    · have hne : vd.ppu.dot ≠ 257 := hd
      rw [hcount, hzero, spriteEval_idle hne (by omega)]
      exact ⟨(congrArg Ppu.sprCountLine hbefore :), (congrArg Ppu.spr0Line hbefore :)⟩
    · rw [hcount, hzero, show vd.ppu.dot = 257 from hd, spriteEval_latch hl]
      exact ⟨(congrArg Ppu.evalFound hbefore :), (congrArg Ppu.spr0Next hbefore :)⟩
    · rw [hcount, hzero, show vd.ppu.dot = 257 from hd, show vd.ppu.scanline = 261 from hl, spriteEval_prerender]
      exact ⟨rfl, rfl⟩

end Sys2Proof.Machine
end

section
/-! PROOFS. The pixel of a rendering dot: priority, greyscale and the sprite-0 hit (R1430, R1440, R1441), through the
whole dot. -/

namespace Sys2Proof.Machine

/-! ## The two layers (R1440) -/

theorem ofBool_append_toNat (a b : Bool) : (BitVec.ofBool a ++ BitVec.ofBool b).toNat = 2 * flagNat a + flagNat b := by
  revert a b
  decide

/-- Pattern bits of a unit at a column in plain arithmetic. -/
theorem pixel_toNat (u : SpriteUnit) (col : Nat) : (u.pixel col).toNat =
    if u.x.toNat ≤ col ∧ col < u.x.toNat + 8 then
      2 * flagNat (u.hi.getLsbD (u.x.toNat + 7 - col)) + flagNat (u.lo.getLsbD (u.x.toNat + 7 - col))
    else 0 := by
  unfold SpriteUnit.pixel
  by_cases hcover : u.x.toNat ≤ col ∧ col < u.x.toNat + 8
  · have hbit : 7 - (col - u.x.toNat) = u.x.toNat + 7 - col := by omega
    rw [if_pos (by simp; omega), if_pos hcover, hbit, ofBool_append_toNat]
  · rw [if_neg (by simp; omega), if_neg hcover]
    rfl

/-- Whether a layer shows at a column: it is on, and not clipped on the left. -/
def shownAt (on left : Bool) (col : Nat) : Bool := on && (decide (8 ≤ col) || left)

theorem bgPixel_of_shown {p : Ppu} {col : Nat} (h : shownAt p.bgOn p.bgLeft col = true) : p.bgPixel col =
    (BitVec.ofBool (p.bgHi.getLsbD (15 - p.x.toNat)) ++ BitVec.ofBool (p.bgLo.getLsbD (15 - p.x.toNat)),
      BitVec.ofBool (p.atHi.getLsbD (15 - p.x.toNat)) ++ BitVec.ofBool (p.atLo.getLsbD (15 - p.x.toNat))) := if_pos h

theorem bgPixel_of_hidden {p : Ppu} {col : Nat} (h : ¬ shownAt p.bgOn p.bgLeft col = true) :
    p.bgPixel col = (0, 0) := if_neg h

theorem bgPixel_toNat (p : Ppu) (col : Nat) :
    let bit (r : BitVec 16) : Nat := flagNat (r.getLsbD (15 - p.x.toNat))
    (p.bgPixel col).1.toNat = (if shownAt p.bgOn p.bgLeft col then 2 * bit p.bgHi + bit p.bgLo else 0) ∧
      (p.bgPixel col).2.toNat = if shownAt p.bgOn p.bgLeft col then 2 * bit p.atHi + bit p.atLo else 0 := by
  intro bit
  by_cases h : shownAt p.bgOn p.bgLeft col = true
  · rw [bgPixel_of_shown h, if_pos h, if_pos h]
    exact ⟨ofBool_append_toNat _ _, ofBool_append_toNat _ _⟩
  · rw [bgPixel_of_hidden h, if_neg h, if_neg h]
    exact ⟨rfl, rfl⟩

/-- Unit `i` has an opaque pixel that shows. -/
def Ppu.opaqueAt (p : Ppu) (col i : Nat) : Prop :=
  shownAt p.sprOn p.sprLeft col = true ∧ i < p.sprCountLine ∧ (p.unitAt i).pixel col ≠ 0

theorem sprPixel_of_none {p : Ppu} {col : Nat} (h : ∀ i, ¬ p.opaqueAt col i) : p.sprPixel col = none := by
  by_cases hshown : shownAt p.sprOn p.sprLeft col = true
  · refine (if_pos hshown).trans (List.findSome?_eq_none_iff.mpr fun i hi => if_pos ?_)
    by_contra hpixel
    exact h i ⟨hshown, List.mem_range.mp hi, hpixel⟩
  · exact if_neg hshown

/-- The first opaque unit wins. -/
theorem sprPixel_of_first {p : Ppu} {col i : Nat} (h : p.opaqueAt col i) (hfirst : ∀ j, j < i → ¬ p.opaqueAt col j) :
    p.sprPixel col = some ((p.unitAt i).pixel col, (p.unitAt i).attr) := by
  obtain ⟨hshown, hi, hpixel⟩ := h
  obtain ⟨k, hk⟩ : ∃ k, p.sprCountLine = i + (k + 1) := ⟨p.sprCountLine - (i + 1), by omega⟩
  refine (if_pos hshown).trans (List.findSome?_eq_some_iff.mpr
    ⟨List.range i, i, ((List.range k).map Nat.succ).map (i + ·), ?_, if_neg hpixel, fun j hj => if_pos ?_⟩)
  · rw [hk, List.range_add, List.range_succ_eq_map]
    rfl
  · by_contra hj'
    have hlt : j < i := List.mem_range.mp hj
    exact hfirst j hlt ⟨hshown, hlt.trans hi, hj'⟩

theorem toNat_and_three (b : Byte) : (b &&& 3).toNat = b.toNat % 4 :=
  Nat.and_two_pow_sub_one_eq_mod b.toNat 2

/-- The background's own entry, the backdrop where it is transparent. -/
def bgEntry (bg : BitVec 2 × BitVec 2) : Nat := if bg.1.toNat = 0 then 0 else 4 * bg.2.toNat + bg.1.toNat

theorem pixelIndex_none (bg : BitVec 2 × BitVec 2) : pixelIndex bg none = bgEntry bg :=
  if_congr BitVec.toNat_inj.symm rfl rfl

/-- A sprite pixel shows on a transparent background, or in front of it. -/
theorem pixelIndex_some (bg : BitVec 2 × BitVec 2) (pixel : BitVec 2) (attr : Byte) :
    pixelIndex bg (some (pixel, attr)) = if bg.1.toNat = 0 ∨ attr.getLsbD 5 = false then
      16 + 4 * (attr.toNat % 4) + pixel.toNat else bgEntry bg := by
  have hspr : sprIndex (pixel, attr) = 16 + 4 * (attr.toNat % 4) + pixel.toNat := by
    rw [sprIndex, toNat_and_three]
  rw [← hspr]
  show (if bg.1 = 0 then _ else if attr.getLsbD 5 then bgIndex bg else _) = _
  by_cases hbg : bg.1 = 0
  · rw [if_pos hbg, if_pos (.inl (congrArg BitVec.toNat hbg))]
  · have hne : ¬ bg.1.toNat = 0 := fun h => hbg (BitVec.eq_of_toNat_eq h)
    rw [if_neg hbg, bgEntry, if_neg hne]
    cases attr.getLsbD 5 with
    | true => exact (if_neg (by simp [hne])).symm
    | false => exact (if_pos (.inr rfl)).symm

/-! ## The pixel of a dot (R1440, R1441) -/

/-- The background pixel of a rendering dot can be read off the PPU after it. -/
theorem ppuDot_bgPixel {vd : Video} (h : vd.renders = true) (devs : List Device) (col : Nat) :
    (ppuDot devs vd).ppu.bgPixel col = (vd.ppu.bgShiftAndReload vd.ppu.dot).bgPixel col := by
  have hlate := ppuDot_late h devs
  have htile := bgFetch_frame vd.ppu.dot devs (drawnDot vd)
  have hpixel := pixelStage_frame vd.ppu.scanline vd.ppu.dot true (vd.mapPpu (Ppu.bgShiftAndReload vd.ppu.dot))
  exact ((congrArg (fun q => q.bgPixel col) hlate :).trans (congrArg (fun q => q.bgPixel col) htile :)).trans
    (congrArg (fun q => q.bgPixel col) hpixel :)

section Pixel
variable {vd : Video} (hl : vd.ppu.scanline ≤ 239) (h1 : 1 ≤ vd.ppu.dot) (h2 : vd.ppu.dot ≤ 256)
  (hen : vd.ppu.renderingEnabled = true) (devs : List Device)
include hl h1 h2 hen

/-- The picture after the dot. -/
theorem ppuDot_framebuffer :
    let p := vd.ppu
    let q := (ppuDot devs vd).ppu
    q.framebuffer = p.framebuffer.set (256 * p.scanline + (p.dot - 1))
      (p.greyed (p.paletteAt (pixelIndex (q.bgPixel (p.dot - 1)) (p.sprPixel (p.dot - 1))))) := by
  intro p q
  have hrender : vd.renders = true := renders_of_visible hl hen
  have hflags : q.framebuffer = (dotStages devs vd).ppu.framebuffer :=
    (congrArg Ppu.framebuffer (ppuDot_stages devs vd).2 :)
  have hshift := bgShiftAndReload_frame p.dot p
  generalize hs : p.bgShiftAndReload p.dot = s at hshift
  have hkept (bg : BitVec 2 × BitVec 2) : s.framebuffer.set (256 * p.scanline + (p.dot - 1))
      (s.greyed (s.paletteAt (pixelIndex bg (s.sprPixel (p.dot - 1))))) =
      p.framebuffer.set (256 * p.scanline + (p.dot - 1))
        (p.greyed (p.paletteAt (pixelIndex bg (p.sprPixel (p.dot - 1))))) := by rw [hshift]; rfl
  rw [hflags, (dotStages_drawn hrender devs).1, drawnDot, pixelStage_of_visible hl h1 h2, ← hkept,
    ppuDot_bgPixel hrender, hs, ← hs]
  rfl

theorem ppuDot_spr0Hit : (ppuDot devs vd).ppu.spr0Hit = (vd.ppu.spr0Hit ||
    vd.ppu.spriteZeroHit (vd.ppu.dot - 1) ((ppuDot devs vd).ppu.bgPixel (vd.ppu.dot - 1)).1) := by
  rw [(ppuDot_sprite_flags devs (by omega)).1, dotStages_spr0Hit_of_visible hl h1 h2 hen,
    ppuDot_bgPixel (renders_of_visible hl hen)]

end Pixel

/-- The hit needs both layers opaque at a column other than the last (R1430). -/
theorem spriteZeroHit_iff_opaque (p s : Ppu) (col : Nat) (hs : s.bgOn = p.bgOn) :
    p.spriteZeroHit col (s.bgPixel col).1 = true ↔
      p.spr0Line = true ∧ p.opaqueAt col 0 ∧ (s.bgPixel col).1 ≠ 0 ∧ col ≠ 255 := by
  have hon : (s.bgPixel col).1 ≠ 0 → p.bgOn = true := fun hne => by
    by_contra hoff
    refine hne (congrArg Prod.fst (bgPixel_of_hidden ?_))
    simp [shownAt, hs, hoff]
  rw [spriteZeroHit_iff]
  simp only [Ppu.opaqueAt, shownAt, Bool.and_eq_true, Bool.or_eq_true, decide_eq_true_eq]
  tauto

/-- Settles O56: the entry of the picture by the first opaque unit, and the hit of unit 0. -/
theorem pixelPriorityAndSpriteZeroHit : Obligations.PixelPriorityAndSpriteZeroHit := by
  intro devs vd hl h1 h2 hmask p q col bgShown sprShown bit bg bgEntry' spr opaqueAt shows
  have hen : p.renderingEnabled = true := (Bool.or_eq_true _ _).mpr hmask
  have hrender : vd.renders = true := renders_of_visible hl hen
  obtain ⟨-, -, hx, -⟩ := ppuDot_scroll hrender devs
  have hon : q.bgOn = p.bgOn := congrArg (BitVec.getLsbD · 3) (ppuDot_mask devs vd)
  have hleft : q.bgLeft = p.bgLeft := congrArg (BitVec.getLsbD · 1) (ppuDot_mask devs vd)
  obtain ⟨hbg, hpalette⟩ := bgPixel_toNat q col
  rw [show q.x = p.x from hx, hon, hleft] at hbg hpalette
  change (q.bgPixel col).1.toNat = bg at hbg
  have hentry : bgEntry (q.bgPixel col) = bgEntry' := by
    rw [bgEntry, hbg]
    by_cases h0 : bg = 0
    · exact (if_pos h0).trans (if_pos h0).symm
    · have hshown : bgShown = true := by
        by_contra hhidden
        exact h0 (if_neg hhidden)
      rw [hpalette, if_pos (show shownAt p.bgOn p.bgLeft col = true from hshown)]
  have hspr (i : Nat) : ((p.unitAt i).pixel col).toNat = spr i := pixel_toNat _ _
  have hopaque (i : Nat) : p.opaqueAt col i ↔ opaqueAt i := by
    rw [Ppu.opaqueAt, ne_eq, ← BitVec.toNat_inj, hspr]
    rfl
  have hshows : shows (pixelIndex (q.bgPixel col) (p.sprPixel col)) := ppuDot_framebuffer hl h1 h2 hen devs
  refine ⟨fun hnone => ?_, fun i hi hfirst => ?_, ?_, ?_⟩
  · rwa [sprPixel_of_none fun i => (hopaque i).not.mpr (hnone i), pixelIndex_none, hentry] at hshows
  · rwa [sprPixel_of_first ((hopaque i).mpr hi) fun j hj => (hopaque j).not.mpr (hfirst j hj), pixelIndex_some, hbg,
      hentry, hspr] at hshows
  · have hhit : q.spr0Hit = _ := ppuDot_spr0Hit hl h1 h2 hen devs
    rw [hhit, Bool.or_eq_true, spriteZeroHit_iff_opaque p q col hon, hopaque, ne_eq, ← BitVec.toNat_inj, hbg]
    rfl
  · exact (congrArg Ppu.palette (ppuDot_stages devs vd).2 :).trans (congrArg Ppu.palette (dotStages_frame devs vd) :)

end Sys2Proof.Machine
end

section
/-! PROOFS. Sprite evaluation (R1420, R1421) over the 257 dots that evaluate a line: what the evaluation has done after
each of its steps, and from that what it has found at the end. -/

namespace Sys2Proof.Machine

/-! ## What the evaluation looks for -/

/-- The first `n` OAM entries that are in range of line `l`, in order. -/
def lineHits (p : Ppu) (l n : Nat) : List Nat := (List.range n).filter fun k => p.inRange l (p.oamByte (4 * k))

theorem lineHits_of_hit {p : Ppu} {l n : Nat} (h : p.inRange l (p.oamByte (4 * n)) = true) :
    lineHits p l (n + 1) = lineHits p l n ++ [n] := by
  rw [lineHits, List.range_succ, List.filter_append, List.filter_singleton, h]
  rfl

theorem lineHits_of_miss {p : Ppu} {l n : Nat} (h : p.inRange l (p.oamByte (4 * n)) = false) :
    lineHits p l (n + 1) = lineHits p l n := by
  rw [lineHits, List.range_succ, List.filter_append, List.filter_singleton, h]
  exact List.append_nil _

/-- The hits of more entries begin with those of fewer. -/
theorem lineHits_append (p : Ppu) (l : Nat) {n m : Nat} (h : n ≤ m) : ∃ t, lineHits p l m = lineHits p l n ++ t := by
  obtain ⟨k, rfl⟩ := Nat.exists_eq_add_of_le h
  rw [lineHits, lineHits, List.range_add, List.filter_append]
  exact ⟨_, rfl⟩

/-- With eight hits, or after the last entry, the first eight hits of the line are known. -/
theorem lineHits_take {p : Ppu} {l n : Nat} (hn : n ≤ 64) (hlen : (lineHits p l n).length ≤ 8)
    (h : n = 64 ∨ (lineHits p l n).length = 8) : (lineHits p l 64).take 8 = lineHits p l n := by
  rcases h with rfl | h8
  · exact List.take_of_length_le hlen
  · obtain ⟨t, ht⟩ := lineHits_append p l hn
    rw [ht]
    exact List.take_left' h8

theorem lineHits_eighth {p : Ppu} {l n m : Nat} (hn : n ≤ 64) (h : (lineHits p l n)[7]? = some m) :
    (lineHits p l 64)[7]? = some m := by
  obtain ⟨t, ht⟩ := lineHits_append p l hn
  rw [ht, List.getElem?_append_left (List.getElem?_eq_some_iff.mp h).1, h]

/-- Past an eighth hit at `n` some byte, `j mod 4` of entry `n + 1 + j`, is in range (R1421). -/
def raisesOverflow (p : Ppu) (l n j : Nat) : Bool := p.inRange l (p.oamByte (4 * (n + 1 + j) + j % 4))

/-- What the flag says after the evaluation of a line: a byte in range past the eighth hit. -/
def OverflowsOn (p : Ppu) (l : Nat) : Prop :=
  ∃ n j, (lineHits p l 64)[7]? = some n ∧ n + 1 + j < 64 ∧ raisesOverflow p l n j = true

/-! ## What is in `oam2` -/

/-- `oam2` holds the entries `found`, and 0xFF from cell `r` on. -/
structure Copied (p : Ppu) (found : List Nat) (r : Nat) (oam2 : Vector Byte 32) : Prop where
  cells : ∀ i k n, found[i]? = some n → k < 4 → oam2[4 * i + k]? = some (p.oamByte (4 * n + k))
  rest : ∀ k, r ≤ k → k < 32 → oam2[k]? = some 0xFF

theorem Copied.mono {p : Ppu} {found : List Nat} {r r' : Nat} {oam2 : Vector Byte 32} (h : Copied p found r oam2)
    (hr : r ≤ r') : Copied p found r' oam2 :=
  ⟨h.cells, fun k hk => h.rest k (hr.trans hk)⟩

/-- A write between the entries and the rest. -/
theorem Copied.set {p : Ppu} {found : List Nat} {r i : Nat} {oam2 : Vector Byte 32} (h : Copied p found r oam2)
    (hi : 4 * found.length ≤ i) (hir : i < r) (v : Byte) : Copied p found r (oam2.setIfInBounds i v) where
  cells j k n hj hk := by
    have hlt : j < found.length := (List.getElem?_eq_some_iff.mp hj).1
    rw [Vector.getElem?_setIfInBounds_ne (by omega)]
    exact h.cells j k n hj hk
  rest k hk hk32 := by
    rw [Vector.getElem?_setIfInBounds_ne (by omega)]
    exact h.rest k hk hk32

/-- A whole entry after the ones found. -/
theorem Copied.snoc {p : Ppu} {found : List Nat} {r n : Nat} {oam2 : Vector Byte 32} (h : Copied p found r oam2)
    (hn : ∀ k, k < 4 → oam2[4 * found.length + k]? = some (p.oamByte (4 * n + k))) :
    Copied p (found ++ [n]) r oam2 where
  cells i k m hi hk := by
    by_cases hlt : i < found.length
    · rw [List.getElem?_append_left hlt] at hi
      exact h.cells i k m hi hk
    · have hlen : i < (found ++ [n]).length := (List.getElem?_eq_some_iff.mp hi).1
      have heq : i = found.length := by simp at hlen; omega
      subst heq
      simp only [List.getElem?_concat_length, Option.some.injEq] at hi
      exact hi ▸ hn k hk
  rest := h.rest

/-! ## The evaluation after each step -/

/-- The evaluation scans entry `n`; an entry found has taken four steps, another one. -/
structure Scanning (p : Ppu) (l steps : Nat) (e : EvalState) : Prop where
  last : e.n ≤ 63
  steps_eq : steps = e.n + 3 * e.found
  found_eq : e.found = (lineHits p l e.n).length
  few : e.found ≤ 7
  copied : Copied p (lineHits p l e.n) (4 * e.found + 1) e.oam2
  zero : e.zeroNext = (decide (0 < e.n) && p.inRange l (p.oamByte 0))

/-- The evaluation has copied the first `c` bytes of entry `n`, which is in range. -/
structure Copying (p : Ppu) (l steps c : Nat) (e : EvalState) : Prop where
  last : e.n ≤ 63
  steps_eq : steps = e.n + 3 * e.found + c
  found_eq : e.found = (lineHits p l e.n).length
  few : e.found ≤ 7
  hit : p.inRange l (p.oamByte (4 * e.n)) = true
  started : 1 ≤ c
  unfinished : c ≤ 3
  copied : Copied p (lineHits p l e.n) (4 * e.found + c) e.oam2
  cells : ∀ k, k < c → e.oam2[4 * e.found + k]? = some (p.oamByte (4 * e.n + k))
  zero : e.zeroNext = p.inRange l (p.oamByte 0)

/-- The first eight hits of the line are found. -/
structure Evaluated (p : Ppu) (l : Nat) (e : EvalState) : Prop where
  found_eq : e.found = ((lineHits p l 64).take 8).length
  copied : Copied p ((lineHits p l 64).take 8) (4 * e.found + 1) e.oam2
  zero : e.zeroNext = p.inRange l (p.oamByte 0)

/-- Past the eighth hit `n` the evaluation looks at byte `j mod 4` of entry `n + 1 + j`, after none was in range. -/
structure Overflowing (p : Ppu) (l steps n j : Nat) (e : EvalState) : Prop where
  evaluated : Evaluated p l e
  eighth : (lineHits p l 64)[7]? = some n
  last : n + 1 + j ≤ 63
  cursor : e.n = n + 1 + j
  byte : e.m = j % 4
  steps_eq : steps = n + 1 + j + 24
  missed : ∀ i, i < j → raisesOverflow p l n i = false

/-- The evaluation of line `l` and the overflow flag `o` after `steps` steps, from the flag and the OAM of `p`. -/
def EvalAt (p : Ppu) (l steps : Nat) (e : EvalState) (o : Bool) : Prop :=
  match e.phase with
  | .scan => Scanning p l steps e ∧ o = p.sprOverflow
  | .copy c => Copying p l steps c e ∧ o = p.sprOverflow
  | .overflow => (∃ n j, Overflowing p l steps n j e) ∧ o = p.sprOverflow
  | .done => Evaluated p l e ∧ (o = true ↔ p.sprOverflow = true ∨ OverflowsOn p l)

/-- The longest evaluation takes 88 steps: after 96 it is over. -/
theorem EvalAt.done {p : Ppu} {l : Nat} {e : EvalState} {o : Bool} (h : EvalAt p l 96 e o) :
    Evaluated p l e ∧ (o = true ↔ p.sprOverflow = true ∨ OverflowsOn p l) := by
  unfold EvalAt at h
  cases hphase : e.phase with
  | scan =>
    rw [hphase] at h
    obtain ⟨⟨hlast, hsteps, -, hfew, -, -⟩, -⟩ := h
    omega
  | copy c =>
    rw [hphase] at h
    obtain ⟨⟨hlast, hsteps, -, hfew, -, -, hc, -, -, -⟩, -⟩ := h
    omega
  | overflow =>
    rw [hphase] at h
    obtain ⟨⟨n, j, -, -, hlast, -, -, hsteps, -⟩, -⟩ := h
    omega
  | done =>
    rw [hphase] at h
    exact h

/-- The evaluation is through with entry `n`. -/
structure EntryOver (p : Ppu) (l steps : Nat) (q : Ppu) : Prop where
  last : q.evalN ≤ 63
  steps_eq : steps = q.evalN + 1 + 3 * q.evalFound
  found_eq : q.evalFound = (lineHits p l (q.evalN + 1)).length
  few : q.evalFound ≤ 8
  eighth : q.evalFound = 8 → (lineHits p l (q.evalN + 1))[7]? = some q.evalN
  copied : Copied p (lineHits p l (q.evalN + 1)) (4 * q.evalFound + 1) q.oam2
  zero : q.spr0Next = p.inRange l (p.oamByte 0)
  flag : q.sprOverflow = p.sprOverflow

/-- The first eight hits are found when no entry, or no slot, is left. -/
theorem EntryOver.evaluated {p q : Ppu} {l steps : Nat} (h : EntryOver p l steps q)
    (hend : q.evalN + 1 = 64 ∨ q.evalFound = 8) : (lineHits p l 64).take 8 = lineHits p l (q.evalN + 1) :=
  lineHits_take (Nat.succ_le_succ h.last) (h.found_eq ▸ h.few) (h.found_eq ▸ hend)

/-- No entry is left to raise the flag after the last one. -/
theorem EntryOver.not_overflowsOn {p q : Ppu} {l steps : Nat} (h : EntryOver p l steps q) (h64 : q.evalN + 1 = 64) :
    ¬ OverflowsOn p l := by
  rintro ⟨n, j, hn, hj, -⟩
  rw [← h64] at hn
  have hlen : 7 < (lineHits p l (q.evalN + 1)).length := (List.getElem?_eq_some_iff.mp hn).1
  have h8 : q.evalFound = 8 := by have := h.few; have := h.found_eq; omega
  have hlast : n = q.evalN := Option.some.inj (hn.symm.trans (h.eighth h8))
  omega

/-- `next_entry()`: the next entry to scan, the overflow state, or the end. -/
theorem nextEntry_at {p q : Ppu} {l steps : Nat} (h : EntryOver p l steps q) :
    EvalAt p l steps q.nextEntry.evalState q.nextEntry.sprOverflow := by
  have htake := h.evaluated
  have hno := h.not_overflowsOn
  obtain ⟨hlast, hsteps, hfound, hfew, heighth, hcopied, hzero, hflag⟩ := h
  unfold Ppu.nextEntry
  by_cases h64 : q.evalN + 1 = 64
  · rw [if_pos (by simpa using h64)]
    rw [← htake (.inl h64)] at hfound hcopied
    refine ⟨⟨hfound, hcopied, hzero⟩, ?_⟩
    show q.sprOverflow = true ↔ _
    rw [hflag, or_iff_left (hno h64)]
  · rw [if_neg (by simpa using h64)]
    by_cases h8 : q.evalFound = 8
    · rw [if_pos (by simpa using h8)]
      have heighth' := lineHits_eighth (by omega) (heighth h8)
      rw [← htake (.inr h8)] at hfound hcopied
      exact ⟨⟨q.evalN, 0, ⟨hfound, hcopied, hzero⟩, heighth', by omega, rfl, rfl, by omega, by simp⟩, hflag⟩
    · rw [if_neg (by simpa using h8)]
      have hnext : q.evalN + 1 ≤ 63 := by omega
      have hslot : q.evalFound ≤ 7 := by omega
      have hzero' : q.spr0Next = (decide (0 < q.evalN + 1) && p.inRange l (p.oamByte 0)) := by simpa using hzero
      exact ⟨⟨hnext, hsteps, hfound, hslot, hcopied, hzero'⟩, hflag⟩

/-! ## The four states (R1420, R1421) -/

/-- `q` evaluates the OAM of `p`. -/
structure Evaluates (p q : Ppu) : Prop where
  oam : q.oam = p.oam
  ctrl : q.ctrl = p.ctrl

theorem Evaluates.oamByte {p q : Ppu} (h : Evaluates p q) (i : Nat) : q.oamByte i = p.oamByte i := by
  rw [Ppu.oamByte, h.oam]
  rfl

theorem Evaluates.inRange {p q : Ppu} (h : Evaluates p q) (l : Nat) (y : Byte) : q.inRange l y = p.inRange l y := by
  simp only [Ppu.inRange, Ppu.sprHeight, Ppu.spr16, h.ctrl]
  rfl

theorem evalScan_hit {p : Ppu} {l : Nat} (h : p.inRange l (p.oamByte (4 * p.evalN)) = true) : p.evalScan l =
    { p.setOam2 (4 * p.evalFound) (p.oamByte (4 * p.evalN)) with
      spr0Next := p.spr0Next || p.evalN == 0
      evalPhase := .copy 1 } := if_pos h

theorem evalScan_miss {p : Ppu} {l : Nat} (h : p.inRange l (p.oamByte (4 * p.evalN)) = false) : p.evalScan l =
    (p.setOam2 (4 * p.evalFound) (p.oamByte (4 * p.evalN))).nextEntry := if_neg (ne_true_of_eq_false h)

theorem evalCopy_within {k : Nat} (h : k < 3) (p : Ppu) : p.evalCopy k =
    { p.setOam2 (4 * p.evalFound + k) (p.oamByte (4 * p.evalN + k)) with evalPhase := .copy (k + 1) } := if_pos h

theorem evalCopy_last (p : Ppu) : p.evalCopy 3 =
    ({ p.setOam2 (4 * p.evalFound + 3) (p.oamByte (4 * p.evalN + 3)) with
       evalFound := p.evalFound + 1 } : Ppu).nextEntry := rfl

theorem evalOverflow_hit {p : Ppu} {l : Nat} (h : p.inRange l (p.oamByte (4 * p.evalN + p.evalM)) = true) :
    p.evalOverflow l = { p with sprOverflow := true, evalPhase := .done } := if_pos h

theorem evalOverflow_miss {p : Ppu} {l : Nat} (h : p.inRange l (p.oamByte (4 * p.evalN + p.evalM)) = false) :
    p.evalOverflow l =
      { p with
        evalN := p.evalN + 1
        evalM := (p.evalM + 1) % 4
        evalPhase := if p.evalN + 1 == 64 then .done else .overflow } := if_neg (ne_true_of_eq_false h)

section Step
variable {p q : Ppu} {l steps : Nat} (hq : Evaluates p q) (hflag : q.sprOverflow = p.sprOverflow)
include hq hflag

/-- A scan writes the Y byte, and goes on to copy the entry or to the next one. -/
theorem evalScan_at (h : Scanning p l steps q.evalState) :
    EvalAt p l (steps + 1) (q.evalScan l).evalState (q.evalScan l).sprOverflow := by
  obtain ⟨(hlast : q.evalN ≤ 63), (hsteps : steps = q.evalN + 3 * q.evalFound),
    (hfound : q.evalFound = (lineHits p l q.evalN).length), (hfew : q.evalFound ≤ 7),
    (hcopied : Copied p (lineHits p l q.evalN) (4 * q.evalFound + 1) q.oam2),
    (hzero : q.spr0Next = (decide (0 < q.evalN) && p.inRange l (p.oamByte 0)))⟩ := h
  have hset := hcopied.set (i := 4 * q.evalFound) (by omega) (by omega) (p.oamByte (4 * q.evalN))
  cases hhit : p.inRange l (p.oamByte (4 * q.evalN)) with
  | true =>
    have hfirst : (q.oam2.setIfInBounds (4 * q.evalFound) (p.oamByte (4 * q.evalN)))[4 * q.evalFound]? =
        some (p.oamByte (4 * q.evalN)) := Vector.getElem?_setIfInBounds_self_of_lt (by omega)
    have hmark : (q.spr0Next || q.evalN == 0) = p.inRange l (p.oamByte 0) := by
      cases hn : q.evalN with
      | zero =>
        rw [hn] at hhit
        rw [hhit, Bool.or_eq_true]
        exact .inr rfl
      | succ n => simp [hzero, hn]
    rw [evalScan_hit (by rw [hq.oamByte, hq.inRange, hhit]), hq.oamByte]
    refine ⟨⟨hlast, ?_, hfound, hfew, hhit, Nat.le_refl 1, by decide, hset, fun k hk => ?_, hmark⟩, hflag⟩
    · exact congrArg (· + 1) hsteps
    · obtain rfl : k = 0 := by omega
      exact hfirst
  | false =>
    have hnext : lineHits p l (q.evalN + 1) = lineHits p l q.evalN := lineHits_of_miss hhit
    have hmark : q.spr0Next = p.inRange l (p.oamByte 0) := by
      cases hn : q.evalN with
      | zero =>
        rw [hn] at hhit
        simp [hzero, hn, show p.inRange l (p.oamByte 0) = false from hhit]
      | succ n => simp [hzero, hn]
    rw [evalScan_miss (by rw [hq.oamByte, hq.inRange, hhit]), hq.oamByte]
    refine nextEntry_at ⟨hlast, ?_, ?_, ?_, ?_, ?_, hmark, hflag⟩
    · show steps + 1 = q.evalN + 1 + 3 * q.evalFound
      omega
    · exact hfound.trans (by rw [← hnext]; rfl)
    · exact hfew.trans (by decide)
    · intro h8
      exact absurd h8 (Nat.ne_of_lt (Nat.lt_succ_of_le hfew))
    · rw [← hnext] at hset
      exact hset

/-- A copy writes one byte, and goes on to the next byte or to the next entry. -/
theorem evalCopy_at {c : Nat} (h : Copying p l steps c q.evalState) :
    EvalAt p l (steps + 1) (q.evalCopy c).evalState (q.evalCopy c).sprOverflow := by
  obtain ⟨(hlast : q.evalN ≤ 63), (hsteps : steps = q.evalN + 3 * q.evalFound + c),
    (hfound : q.evalFound = (lineHits p l q.evalN).length), (hfew : q.evalFound ≤ 7),
    (hhit : p.inRange l (p.oamByte (4 * q.evalN)) = true), hc1, hc3,
    (hcopied : Copied p (lineHits p l q.evalN) (4 * q.evalFound + c) q.oam2),
    (hcells : ∀ k, k < c → q.oam2[4 * q.evalFound + k]? = some (p.oamByte (4 * q.evalN + k))),
    (hzero : q.spr0Next = p.inRange l (p.oamByte 0))⟩ := h
  have hset := (hcopied.mono (Nat.le_succ _)).set (i := 4 * q.evalFound + c) (by omega) (by omega)
    (p.oamByte (4 * q.evalN + c))
  have hcells' (k : Nat) (hk : k < c + 1) :
      (q.oam2.setIfInBounds (4 * q.evalFound + c) (p.oamByte (4 * q.evalN + c)))[4 * q.evalFound + k]? =
        some (p.oamByte (4 * q.evalN + k)) := by
    obtain hlt | rfl := Nat.lt_succ_iff_lt_or_eq.mp hk
    · rw [Vector.getElem?_setIfInBounds_ne (by omega)]
      exact hcells k hlt
    · exact Vector.getElem?_setIfInBounds_self_of_lt (by omega)
  obtain hlt | rfl := Nat.lt_or_eq_of_le hc3
  · rw [evalCopy_within hlt, hq.oamByte]
    have hsteps' : steps + 1 = q.evalN + 3 * q.evalFound + (c + 1) := congrArg (· + 1) hsteps
    exact ⟨⟨hlast, hsteps', hfound, hfew, hhit, Nat.le_add_left 1 c, hlt, hset, hcells', hzero⟩, hflag⟩
  · have hnext : lineHits p l (q.evalN + 1) = lineHits p l q.evalN ++ [q.evalN] := lineHits_of_hit hhit
    have hlen : (lineHits p l (q.evalN + 1)).length = q.evalFound + 1 := by
      rw [hnext, List.length_append, ← hfound]
      rfl
    rw [evalCopy_last, hq.oamByte]
    refine nextEntry_at ⟨hlast, ?_, hlen.symm, Nat.succ_le_succ hfew, fun h8 => ?_, ?_, hzero, hflag⟩
    · show steps + 1 = q.evalN + 1 + 3 * (q.evalFound + 1)
      omega
    · have h7 : 7 = (lineHits p l q.evalN).length := by rw [← hfound]; exact (Nat.succ.inj h8).symm
      show (lineHits p l (q.evalN + 1))[7]? = some q.evalN
      rw [hnext, h7, List.getElem?_concat_length]
    · show Copied p (lineHits p l (q.evalN + 1)) (4 * (q.evalFound + 1) + 1) _
      rw [hnext]
      exact (hset.snoc (by rw [← hfound]; exact hcells')).mono (by omega)

/-- The overflow state raises the flag, or goes on with the next byte of the next entry. -/
theorem evalOverflow_at {n j : Nat} (h : Overflowing p l steps n j q.evalState) :
    EvalAt p l (steps + 1) (q.evalOverflow l).evalState (q.evalOverflow l).sprOverflow := by
  obtain ⟨⟨hfound, hcopied, hzero⟩, heighth, hlast, (hcursor : q.evalN = n + 1 + j), (hbyte : q.evalM = j % 4), hsteps,
    hmissed⟩ := h
  have hlook : q.inRange l (q.oamByte (4 * q.evalN + q.evalM)) = raisesOverflow p l n j := by
    rw [hq.inRange, hq.oamByte, hcursor, hbyte]
    rfl
  cases hraise : raisesOverflow p l n j with
  | true =>
    rw [evalOverflow_hit (hlook.trans hraise)]
    exact ⟨⟨hfound, hcopied, hzero⟩, iff_of_true rfl (.inr ⟨n, j, heighth, Nat.lt_succ_of_le hlast, hraise⟩)⟩
  | false =>
    have hmissed' (i : Nat) (hi : i < j + 1) : raisesOverflow p l n i = false := by
      obtain hlt | rfl := Nat.lt_succ_iff_lt_or_eq.mp hi
      · exact hmissed i hlt
      · exact hraise
    rw [evalOverflow_miss (hlook.trans hraise)]
    by_cases h64 : q.evalN + 1 = 64
    · have hno : ¬ OverflowsOn p l := by
        rintro ⟨n', i, hn', hi, hr⟩
        obtain rfl : n = n' := Option.some.inj (heighth.symm.trans hn')
        rw [hmissed' i (by omega)] at hr
        cases hr
      rw [if_pos (by simpa using h64)]
      refine ⟨⟨hfound, hcopied, hzero⟩, ?_⟩
      show q.sprOverflow = true ↔ _
      rw [hflag, or_iff_left hno]
    · rw [if_neg (by simpa using h64)]
      have hmod : (q.evalM + 1) % 4 = (j + 1) % 4 := by omega
      exact ⟨⟨n, j + 1, ⟨hfound, hcopied, hzero⟩, heighth, by omega, congrArg (· + 1) hcursor, hmod, by omega, hmissed'⟩,
        hflag⟩

end Step

/-- Every step of the evaluation (R1420, R1421). -/
theorem evalStep_at {p q : Ppu} {l steps : Nat} (hq : Evaluates p q) (h : EvalAt p l steps q.evalState q.sprOverflow) :
    EvalAt p l (steps + 1) (q.evalStep l).evalState (q.evalStep l).sprOverflow := by
  have hphase : q.evalState.phase = q.evalPhase := rfl
  unfold Ppu.evalStep
  cases he : q.evalPhase with
  | scan =>
    rw [EvalAt, hphase, he] at h
    exact evalScan_at hq h.2 h.1
  | copy c =>
    rw [EvalAt, hphase, he] at h
    exact evalCopy_at hq h.2 h.1
  | overflow =>
    rw [EvalAt, hphase, he] at h
    obtain ⟨⟨n, j, hover⟩, hflag⟩ := h
    exact evalOverflow_at hq hflag hover
  | done =>
    rw [EvalAt, hphase, he] at h ⊢
    exact h

/-! ## The dots of the evaluation (R1420) -/

/-- The dots of a line so far keep the line, the OAM and the settings of `p`, and lead to dot `d`. -/
structure OnLine (p : Ppu) (d : Nat) (q : Ppu) : Prop where
  line : q.scanline = p.scanline
  dot : q.dot = d
  mask : q.mask = p.mask
  evaluates : Evaluates p q

theorem OnLine.next {p : Ppu} {d : Nat} {vd : Video} (h : OnLine p d vd.ppu) (hl : p.scanline ≤ 239) (hd : d < 340)
    (devs : List Device) : OnLine p (d + 1) (ppuDot devs vd).ppu := by
  obtain ⟨hline, hdot, hmask, hoam, hctrl⟩ := h
  obtain ⟨hline', hdot', -⟩ := ppuDot_within devs (vd := vd) (by omega) (by omega)
  have hflags := (ppuDot_stages devs vd).2
  have hstages := dotStages_frame devs vd
  exact ⟨hline'.trans hline, hdot'.trans (congrArg (· + 1) hdot), (ppuDot_mask devs vd).trans hmask,
    ((congrArg Ppu.oam hflags :).trans (congrArg Ppu.oam hstages :)).trans hoam,
    ((congrArg Ppu.ctrl hflags :).trans (congrArg Ppu.ctrl hstages :)).trans hctrl⟩

theorem OnLine.renders {p : Ppu} {d : Nat} {vd : Video} (h : OnLine p d vd.ppu) (hl : p.scanline ≤ 239)
    (hen : p.renderingEnabled = true) : vd.renders = true := by
  refine renders_of_visible (h.line ▸ hl) ?_
  simpa only [Ppu.renderingEnabled, Ppu.bgOn, Ppu.sprOn, h.mask] using hen

/-- What a rendering dot of a visible line does to the evaluation: what `spriteEval` does to a PPU that agrees with the
one before the dot. -/
theorem OnLine.evaluation {p : Ppu} {d : Nat} {vd : Video} (h : OnLine p d vd.ppu) (hl : p.scanline ≤ 239)
    (hen : p.renderingEnabled = true) (devs : List Device) : ∃ r : Ppu, Evaluates p r ∧
      r.evalState = vd.ppu.evalState ∧ r.sprOverflow = vd.ppu.sprOverflow ∧
      (ppuDot devs vd).ppu.evalState = (r.spriteEval p.scanline d).evalState ∧
      (ppuDot devs vd).ppu.sprOverflow = (r.spriteEval p.scanline d).sprOverflow := by
  have hrender := h.renders hl hen
  obtain ⟨hline, hdot, -, hoam, hctrl⟩ := h
  have hbefore := beforeSprites_frame devs vd
  have hflag := (ppuDot_sprite_flags devs (vd := vd) (by omega)).2
  refine ⟨(beforeSprites devs vd).ppu,
    ⟨(congrArg Ppu.oam hbefore :).trans hoam, (congrArg Ppu.ctrl hbefore :).trans hctrl⟩,
    beforeSprites_evalState devs vd, beforeSprites_sprOverflow devs vd, ?_, ?_⟩
  · rw [ppuDot_evalState, if_pos hrender, hline, hdot]
  · rw [hflag, dotStages_sprOverflow, if_pos hrender, hline, hdot]

/-- The evaluation waits at entry 0, and the cells of `oam2` up to dot `d` are cleared. -/
structure Clearing (d : Nat) (e : EvalState) : Prop where
  n : e.n = 0
  found : e.found = 0
  phase : e.phase = .scan
  zero : e.zeroNext = false
  cells : ∀ i, 2 * (i + 1) < d → i < 32 → e.oam2[i]? = some 0xFF

theorem clearing_of_start {l : Nat} (hl : l ≤ 239) (r : Ppu) : Clearing 2 (r.spriteEval l 1).evalState := by
  rw [spriteEval_start hl]
  exact ⟨rfl, rfl, rfl, rfl, fun i hi => by omega⟩

/-- The even dots of 2 to 64 clear a cell each. -/
theorem Clearing.next {l d : Nat} {r : Ppu} (h : Clearing d r.evalState) (hl : l ≤ 239) (h1 : 2 ≤ d) (h2 : d ≤ 65) :
    Clearing (d + 1) (r.spriteEval l d).evalState := by
  obtain ⟨hn, hfound, hphase, hzero, hcells⟩ := h
  by_cases heven : d % 2 = 0
  · rw [spriteEval_clear hl h1 (by omega) heven]
    refine ⟨hn, hfound, hphase, hzero, fun i hi hi32 => ?_⟩
    show (r.oam2.setIfInBounds (d / 2 - 1) 0xFF)[i]? = some 0xFF
    by_cases hcell : d / 2 - 1 = i
    · rw [hcell]
      exact Vector.getElem?_setIfInBounds_self_of_lt hi32
    · rw [Vector.getElem?_setIfInBounds_ne hcell]
      exact hcells i (by omega) hi32
  · rw [spriteEval_idle (by omega) (by omega)]
    exact ⟨hn, hfound, hphase, hzero, fun i hi => hcells i (by omega)⟩

/-- With all cells cleared the evaluation has taken no step yet. -/
theorem Clearing.evalAt {e : EvalState} (h : Clearing 66 e) (p : Ppu) (l : Nat) : EvalAt p l 0 e p.sprOverflow := by
  obtain ⟨hn, hfound, hphase, hzero, hcells⟩ := h
  have hcopied : Copied p [] (4 * 0 + 1) e.oam2 := ⟨fun i k n hi => by simp at hi, fun k _ hk => hcells k (by omega) hk⟩
  rw [EvalAt, hphase]
  refine ⟨⟨by omega, by omega, ?_, by omega, ?_, ?_⟩, rfl⟩
  · rw [hfound, hn]
    rfl
  · rw [hfound, hn]
    exact hcopied
  · rw [hzero, hn]
    rfl

/-- Where the evaluation stands before dot `d` of 2 to 257. -/
def EvalDot (p : Ppu) (d : Nat) (q : Ppu) : Prop :=
  OnLine p d q ∧ if d ≤ 65 then Clearing d q.evalState ∧ q.sprOverflow = p.sprOverflow
    else EvalAt p p.scanline ((d - 65) / 2) q.evalState q.sprOverflow

section Line
variable {p : Ppu} (hl : p.scanline ≤ 239) (hen : p.renderingEnabled = true) (devs : List Device)
include hl hen

theorem EvalDot.next {d : Nat} {vd : Video} (h : EvalDot p d vd.ppu) (h1 : 2 ≤ d) (h2 : d ≤ 256) :
    EvalDot p (d + 1) (ppuDot devs vd).ppu := by
  obtain ⟨hon, hstate⟩ := h
  obtain ⟨r, hr, heval, hflag, hq, hqflag⟩ := hon.evaluation hl hen devs
  refine ⟨hon.next hl (by omega) devs, ?_⟩
  rw [hq, hqflag]
  rw [← heval, ← hflag] at hstate
  by_cases hclear : d ≤ 65
  · rw [if_pos hclear] at hstate
    have hnext := hstate.1.next hl h1 hclear
    have hkept : (r.spriteEval p.scanline d).sprOverflow = p.sprOverflow :=
      (spriteEval_sprOverflow_elsewhere (by omega) r).trans hstate.2
    by_cases hlast : d + 1 ≤ 65
    · rw [if_pos hlast]
      exact ⟨hnext, hkept⟩
    · obtain rfl : d = 65 := by omega
      rw [if_neg hlast, hkept]
      exact hnext.evalAt p p.scanline
  · rw [if_neg hclear] at hstate
    rw [if_neg (by omega)]
    by_cases heven : d % 2 = 0
    · have hsteps : (d + 1 - 65) / 2 = (d - 65) / 2 + 1 := by omega
      rw [spriteEval_step hl (by omega) h2 heven, hsteps]
      exact evalStep_at hr hstate
    · have hsteps : (d + 1 - 65) / 2 = (d - 65) / 2 := by omega
      rw [spriteEval_idle (by omega) (by omega), hsteps]
      exact hstate

theorem OnLine.evalDot {vd : Video} (h : OnLine p 1 vd.ppu) (hflag : vd.ppu.sprOverflow = p.sprOverflow) :
    EvalDot p 2 (ppuDot devs vd).ppu := by
  obtain ⟨r, -, -, hrflag, hq, hqflag⟩ := h.evaluation hl hen devs
  refine ⟨h.next hl (by decide) devs, ?_⟩
  rw [if_pos (by decide), hq, hqflag]
  exact ⟨clearing_of_start hl r, ((spriteEval_sprOverflow_elsewhere (by omega) r).trans hrflag).trans hflag⟩

theorem evalDot_iterate {vd : Video} (h : EvalDot p 2 vd.ppu) {k : Nat} (hk : k ≤ 255) :
    EvalDot p (k + 2) (Nat.iterate (ppuDot devs) k vd).ppu := by
  induction k with
  | zero => exact h
  | succ k ih =>
    rw [Function.iterate_succ_apply']
    exact (ih (by omega)).next hl hen devs (by omega) (by omega)

/-- Dot 257 latches what the evaluation has found. -/
theorem EvalDot.latched {vd : Video} (h : EvalDot p 257 vd.ppu) :
    let q := (ppuDot devs vd).ppu
    OnLine p 258 q ∧ Evaluated p p.scanline q.evalState ∧ q.sprCountLine = q.evalState.found ∧
      q.spr0Line = q.evalState.zeroNext ∧ (q.sprOverflow = true ↔ p.sprOverflow = true ∨ OverflowsOn p p.scanline) := by
  intro q
  obtain ⟨hon, hstate⟩ := h
  obtain ⟨hevaluated, hover⟩ := EvalAt.done hstate
  obtain ⟨r, -, -, hflag, -, hqflag⟩ := hon.evaluation hl hen devs
  obtain ⟨hcount, hzero⟩ := ppuDot_lineLatches (hon.renders hl hen) devs
  have hkept : q.evalState = vd.ppu.evalState := ppuDot_evalState_kept devs (.inr hon.dot.ge)
  have hbefore := beforeSprites_evalState devs vd
  rw [hon.line, hon.dot, spriteEval_latch hl] at hcount hzero
  refine ⟨hon.next hl (by decide) devs, hkept ▸ hevaluated, ?_, ?_, ?_⟩
  · rw [hkept, ← hbefore]
    exact hcount
  · rw [hkept, ← hbefore]
    exact hzero
  · rw [show q.sprOverflow = _ from hqflag, spriteEval_sprOverflow_elsewhere (by omega), hflag]
    exact hover

/-- The line after its dots 1 to 257, their number a variable so that no tactic unrolls them. -/
theorem evaluated_after_line {vd : Video} (h : OnLine p 1 vd.ppu) (hflag : vd.ppu.sprOverflow = p.sprOverflow)
    {dots : Nat} (hdots : dots = 257) :
    let q := (Nat.iterate (ppuDot devs) dots vd).ppu
    OnLine p 258 q ∧ Evaluated p p.scanline q.evalState ∧ q.sprCountLine = q.evalState.found ∧
      q.spr0Line = q.evalState.zeroNext ∧ (q.sprOverflow = true ↔ p.sprOverflow = true ∨ OverflowsOn p p.scanline) := by
  obtain ⟨n, rfl⟩ : ∃ n, dots = n + 2 := ⟨255, hdots⟩
  have hn : n + 2 = 257 := hdots
  have hend := evalDot_iterate hl hen devs (h.evalDot hl hen devs hflag) (show n ≤ 255 by omega)
  rw [hn] at hend
  rw [Function.iterate_succ_apply', Function.iterate_succ_apply]
  exact hend.latched hl hen devs

end Line

/-- Settles O54: the evaluation from dot to dot, and what its end says of the line's hits. -/
theorem spriteEvaluationOfALine : Obligations.SpriteEvaluationOfALine := by
  intro devs vd hl hd hmask
  have hen : vd.ppu.renderingEnabled = true := (Bool.or_eq_true _ _).mpr hmask
  have hline := evaluated_after_line hl hen devs ⟨rfl, hd, rfl, rfl, rfl⟩ rfl (dots := 257) rfl
  generalize Nat.iterate (ppuDot devs) 257 vd = after at hline ⊢
  intro p q height inRange hits found
  obtain ⟨⟨hscanline, hdot, -, hoam, -⟩, ⟨hfound, hcopied, hzero⟩, hcount, hmark, hover⟩ := hline
  refine ⟨hscanline, hdot, hoam, hcount.trans hfound, hmark.trans hzero, hcopied.cells, fun k hk hk32 => ?_, hover⟩
  exact hcopied.rest k (hfound ▸ hk) hk32

end Sys2Proof.Machine
end
